-- ==== Sys2Proof/Word.lean ====
section
/-!
DEFINITION. The two word types of the core: 8-bit data (registers, memory cells, the ALU) and 16-bit addresses
(00_scope.md R5). Arithmetic on them wraps, as `+8`, `-8`, `+16` and `-16` do in 00_scope.md R9.
-/
namespace Sys2Proof

/-- An 8-bit value: A, X, Y, SP, a memory cell (00_scope.md R5). -/
abbrev Byte := BitVec 8

/-- A 16-bit value: PC, an effective address, a vector (00_scope.md R5). -/
abbrev Addr := BitVec 16

end Sys2Proof
end

