-- ==== Sys2Proof/Config.lean ====
section
/-!
DEFINITION. What an implementation fixes and what the spec leaves open: the named parameters of 00_scope.md R6, their
defaults, and the free values (constants without a body) for HALT_OPCODE, which R6 leaves OPEN, and for the register
contents between construction and the first Reset, which 10_state.md R34 leaves unspecified.
-/
namespace Sys2Proof

/-- DECIMAL_POLICY (00_scope.md R6, 92_eei_decisions.md D5): what ADC and SBC do while D = 1. -/
inductive DecimalPolicy where
  | binary
  | refuse
  deriving DecidableEq, Repr

/-- UNKNOWN_OPCODE_POLICY (00_scope.md R6, 92_eei_decisions.md D25): `proceed` is the spec's "continue" (report, one
cycle, PC + 1), `fault` its model-side option. -/
inductive UnknownPolicy where
  | proceed
  | fault
  deriving DecidableEq, Repr

/-- BRK_RETURN_OFFSET (00_scope.md R6, 92_eei_decisions.md D8): BRK pushes its own address plus 1 or plus 2. -/
inductive BrkReturnOffset where
  | one
  | two
  deriving DecidableEq, Repr

/-- The named parameters a model takes as arguments (00_scope.md R6). -/
structure Params where
  /-- MEM_INIT: what every byte holds after construction and after a host clear. -/
  memInit : Byte
  /-- HALT_OPCODE: the halt byte, or `none` for NONE. -/
  haltOpcode : Option Byte
  /-- DECIMAL_POLICY. -/
  decimal : DecimalPolicy
  /-- BRK_RETURN_OFFSET. -/
  brkReturn : BrkReturnOffset
  /-- BRK_SETS_I. -/
  brkSetsI : Bool
  /-- UNKNOWN_OPCODE_POLICY. -/
  unknown : UnknownPolicy
  deriving DecidableEq, Repr

/-- The 105 byte values that are not documented opcodes (30_encoding.md R66). -/
def undocumentedBytes : List Byte :=
  [0x02, 0x03, 0x04, 0x07, 0x0B, 0x0C, 0x0F, 0x12, 0x13, 0x14, 0x17, 0x1A, 0x1B, 0x1C, 0x1F] ++
  [0x22, 0x23, 0x27, 0x2B, 0x2F, 0x32, 0x33, 0x34, 0x37, 0x3A, 0x3B, 0x3C, 0x3F, 0x42, 0x43] ++
  [0x44, 0x47, 0x4B, 0x4F, 0x52, 0x53, 0x54, 0x57, 0x5A, 0x5B, 0x5C, 0x5F, 0x62, 0x63, 0x64] ++
  [0x67, 0x6B, 0x6F, 0x72, 0x73, 0x74, 0x77, 0x7A, 0x7B, 0x7C, 0x7F, 0x80, 0x82, 0x83, 0x87] ++
  [0x89, 0x8B, 0x8F, 0x92, 0x93, 0x97, 0x9B, 0x9C, 0x9E, 0x9F, 0xA3, 0xA7, 0xAB, 0xAF, 0xB2] ++
  [0xB3, 0xB7, 0xBB, 0xBF, 0xC2, 0xC3, 0xC7, 0xCB, 0xCF, 0xD2, 0xD3, 0xD4, 0xD7, 0xDA, 0xDB] ++
  [0xDC, 0xDF, 0xE2, 0xE3, 0xE7, 0xEB, 0xEF, 0xF2, 0xF3, 0xF4, 0xF7, 0xFA, 0xFB, 0xFC, 0xFF]

/-- Whether a byte is one of the 105 of 30_encoding.md R66. -/
def isUndocumented (b : Byte) : Bool := undocumentedBytes.contains b

/-- The range R6 gives HALT_OPCODE: one of the 105 undocumented bytes, or NONE. -/
def haltAllowed : Option Byte → Bool
  | none => true
  | some h => isUndocumented h

/-- The parameters lie in the ranges 00_scope.md R6 gives them (only HALT_OPCODE's is not already its type's). -/
def Params.wf (p : Params) : Bool := haltAllowed p.haltOpcode

/-- Free value (DESIGN CHOICE, log entry 3): which of the 105 bytes of R66 is HALT_OPCODE, or NONE. It has no body, so
no proof can see it. -/
opaque Config.haltIndex : Option (Fin 105)

/-- HALT_OPCODE of the core as it leaves reset: OPEN in 00_scope.md R6, hence a free value within R6's range. -/
def Config.haltOpcode : Option Byte :=
  Config.haltIndex.map fun k => undocumentedBytes.get (k.cast (rfl : 105 = undocumentedBytes.length))

/-- The defaults of 00_scope.md R6; HALT_OPCODE has none and is the free value. -/
def Params.default : Params where
  memInit := 0x69
  haltOpcode := Config.haltOpcode
  decimal := .binary
  brkReturn := .two
  brkSetsI := true
  unknown := .proceed

/-- Free values (log entry 9): the bytes A, X, Y and SP (indices 0 to 3) hold between construction and the first Reset
(10_state.md R34). -/
opaque Config.powerUpByte : Nat → Byte

/-- Free value (log entry 9): PC between construction and the first Reset (10_state.md R34). -/
opaque Config.powerUpPc : Addr

/-- Free values (log entry 9): the flags N V B D I Z C (indices 0 to 6) between construction and the first Reset
(10_state.md R34). -/
opaque Config.powerUpFlag : Nat → Bool

/-- Free value (log entry 9): CYC between construction and the first Reset (10_state.md R34). -/
opaque Config.powerUpCyc : Nat

end Sys2Proof
end

