-- ==== Sys2Proof/Syntax.lean ====
section
/-!
DEFINITION. Abstract syntax: one constructor per row of spec/opcode_table.json (30_encoding.md R61, R66, R67), 151
documented opcodes, the halt byte and the unknown opcodes. A constructor holds the operand bytes of its form
(30_encoding.md R60, R64): `imm` and `zp` are the byte after the opcode, `rel` is that byte as a branch offset, `addr`
and `ptr` are the little-endian 16-bit value of the two bytes after it. The suffix names the form: Acc Accumulator,
Imm Immediate, Zp ZeroPage, ZpX ZeroPage-X, ZpY ZeroPage-Y, Abs Absolute, AbsX Absolute-X, AbsY Absolute-Y,
Ind Indirect, IndX Indexed-Indirect (X), IndY Indirect-Indexed (Y); Implied and Relative have no suffix.
-/
namespace Sys2Proof

/-- The instructions of 30_encoding.md R61, R66 and R67. -/
inductive Instr where
  -- ADC: R109
  | adcImm (imm : Byte)
  | adcZp (zp : Byte)
  | adcZpX (zp : Byte)
  | adcAbs (addr : Addr)
  | adcAbsX (addr : Addr)
  | adcAbsY (addr : Addr)
  | adcIndX (zp : Byte)
  | adcIndY (zp : Byte)
  -- SBC: R110
  | sbcImm (imm : Byte)
  | sbcZp (zp : Byte)
  | sbcZpX (zp : Byte)
  | sbcAbs (addr : Addr)
  | sbcAbsX (addr : Addr)
  | sbcAbsY (addr : Addr)
  | sbcIndX (zp : Byte)
  | sbcIndY (zp : Byte)
  -- CMP: R111
  | cmpImm (imm : Byte)
  | cmpZp (zp : Byte)
  | cmpZpX (zp : Byte)
  | cmpAbs (addr : Addr)
  | cmpAbsX (addr : Addr)
  | cmpAbsY (addr : Addr)
  | cmpIndX (zp : Byte)
  | cmpIndY (zp : Byte)
  -- CPX: R112
  | cpxImm (imm : Byte)
  | cpxZp (zp : Byte)
  | cpxAbs (addr : Addr)
  -- CPY: R113
  | cpyImm (imm : Byte)
  | cpyZp (zp : Byte)
  | cpyAbs (addr : Addr)
  -- INC: R114
  | incZp (zp : Byte)
  | incZpX (zp : Byte)
  | incAbs (addr : Addr)
  | incAbsX (addr : Addr)
  -- DEC: R115
  | decZp (zp : Byte)
  | decZpX (zp : Byte)
  | decAbs (addr : Addr)
  | decAbsX (addr : Addr)
  -- INX: R116
  | inx
  -- INY: R117
  | iny
  -- DEX: R118
  | dex
  -- DEY: R119
  | dey
  -- AND: R121
  | andImm (imm : Byte)
  | andZp (zp : Byte)
  | andZpX (zp : Byte)
  | andAbs (addr : Addr)
  | andAbsX (addr : Addr)
  | andAbsY (addr : Addr)
  | andIndX (zp : Byte)
  | andIndY (zp : Byte)
  -- EOR: R122
  | eorImm (imm : Byte)
  | eorZp (zp : Byte)
  | eorZpX (zp : Byte)
  | eorAbs (addr : Addr)
  | eorAbsX (addr : Addr)
  | eorAbsY (addr : Addr)
  | eorIndX (zp : Byte)
  | eorIndY (zp : Byte)
  -- ORA: R123
  | oraImm (imm : Byte)
  | oraZp (zp : Byte)
  | oraZpX (zp : Byte)
  | oraAbs (addr : Addr)
  | oraAbsX (addr : Addr)
  | oraAbsY (addr : Addr)
  | oraIndX (zp : Byte)
  | oraIndY (zp : Byte)
  -- BIT: R124
  | bitZp (zp : Byte)
  | bitAbs (addr : Addr)
  -- LDA: R125
  | ldaImm (imm : Byte)
  | ldaZp (zp : Byte)
  | ldaZpX (zp : Byte)
  | ldaAbs (addr : Addr)
  | ldaAbsX (addr : Addr)
  | ldaAbsY (addr : Addr)
  | ldaIndX (zp : Byte)
  | ldaIndY (zp : Byte)
  -- LDX: R126
  | ldxImm (imm : Byte)
  | ldxZp (zp : Byte)
  | ldxZpY (zp : Byte)
  | ldxAbs (addr : Addr)
  | ldxAbsY (addr : Addr)
  -- LDY: R127
  | ldyImm (imm : Byte)
  | ldyZp (zp : Byte)
  | ldyZpX (zp : Byte)
  | ldyAbs (addr : Addr)
  | ldyAbsX (addr : Addr)
  -- STA: R128
  | staZp (zp : Byte)
  | staZpX (zp : Byte)
  | staAbs (addr : Addr)
  | staAbsX (addr : Addr)
  | staAbsY (addr : Addr)
  | staIndX (zp : Byte)
  | staIndY (zp : Byte)
  -- STX: R129
  | stxZp (zp : Byte)
  | stxZpY (zp : Byte)
  | stxAbs (addr : Addr)
  -- STY: R130
  | styZp (zp : Byte)
  | styZpX (zp : Byte)
  | styAbs (addr : Addr)
  -- TAX: R131
  | tax
  -- TAY: R132
  | tay
  -- TXA: R133
  | txa
  -- TYA: R134
  | tya
  -- TSX: R135
  | tsx
  -- TXS: R136
  | txs
  -- ASL: R137
  | aslAcc
  | aslZp (zp : Byte)
  | aslZpX (zp : Byte)
  | aslAbs (addr : Addr)
  | aslAbsX (addr : Addr)
  -- LSR: R138
  | lsrAcc
  | lsrZp (zp : Byte)
  | lsrZpX (zp : Byte)
  | lsrAbs (addr : Addr)
  | lsrAbsX (addr : Addr)
  -- ROL: R139
  | rolAcc
  | rolZp (zp : Byte)
  | rolZpX (zp : Byte)
  | rolAbs (addr : Addr)
  | rolAbsX (addr : Addr)
  -- ROR: R140
  | rorAcc
  | rorZp (zp : Byte)
  | rorZpX (zp : Byte)
  | rorAbs (addr : Addr)
  | rorAbsX (addr : Addr)
  -- BCC: R142
  | bcc (rel : Byte)
  -- BCS: R143
  | bcs (rel : Byte)
  -- BEQ: R144
  | beq (rel : Byte)
  -- BMI: R145
  | bmi (rel : Byte)
  -- BNE: R146
  | bne (rel : Byte)
  -- BPL: R147
  | bpl (rel : Byte)
  -- BVC: R148
  | bvc (rel : Byte)
  -- BVS: R149
  | bvs (rel : Byte)
  -- JMP: R150
  | jmpAbs (addr : Addr)
  | jmpInd (ptr : Addr)
  -- JSR: R151
  | jsr (addr : Addr)
  -- RTS: R152
  | rts
  -- PHA: R155
  | pha
  -- PHP: R156
  | php
  -- PLA: R157
  | pla
  -- PLP: R158
  | plp
  -- BRK: R159
  | brk
  -- RTI: R160
  | rti
  -- CLC: R161
  | clc
  -- CLD: R162
  | cld
  -- CLI: R163
  | cli
  -- CLV: R164
  | clv
  -- SEC: R165
  | sec
  -- SED: R166
  | sed
  -- SEI: R167
  | sei
  -- NOP: R168
  | nop
  -- the emulator's halt byte HALT_OPCODE: R169
  | hlt
  -- a byte that is neither a documented opcode nor HALT_OPCODE: R170
  | unknown (op : Byte)
  deriving DecidableEq, Repr

end Sys2Proof
end

