-- ==== Sys2Proof/Decode.lean ====
section
/-!
DEFINITION. From bytes to instructions and back. The opcode table of 30_encoding.md R61, grouped by mnemonic as the
encoding lists of R109 to R168 are; the decoder, by exact match of the whole opcode byte (R63); the encoder, written
out from the same encodings; and the byte-order and sign-extension helpers of 00_scope.md R8 and R9.
-/
namespace Sys2Proof

/-! ### Bit fields and byte order (00_scope.md R8, R9) -/

/-- `{h, l}`: the 16-bit value `h * 256 + l` (00_scope.md R8). -/
def word (h l : Byte) : Addr := h ++ l

/-- `hi(w) = w[15:8]` (00_scope.md R9). -/
def hi (w : Addr) : Byte := w.extractLsb' 8 8

/-- `lo(w) = w[7:0]` (00_scope.md R9). -/
def lo (w : Addr) : Byte := w.extractLsb' 0 8

/-- `zext_16(b)` (00_scope.md R9). -/
def zext16 (b : Byte) : Addr := b.setWidth 16

/-- `sext_16(b)` (00_scope.md R9). -/
def sext16 (b : Byte) : Addr := b.signExtend 16

/-! ### The opcode table -/

/-- The 13 operand forms of 30_encoding.md R60. -/
inductive Form where
  | implied | accumulator | immediate | zeroPage | zeroPageX | zeroPageY | relative
  | absolute | absoluteX | absoluteY | indirect | indexedIndirect | indirectIndexed
  deriving DecidableEq, Repr

/-- How many operand bytes follow the opcode (30_encoding.md R60). -/
def Form.operandBytes : Form → Nat
  | .implied => 0
  | .accumulator => 0
  | .immediate => 1
  | .zeroPage => 1
  | .zeroPageX => 1
  | .zeroPageY => 1
  | .relative => 1
  | .absolute => 2
  | .absoluteX => 2
  | .absoluteY => 2
  | .indirect => 2
  | .indexedIndirect => 1
  | .indirectIndexed => 1

/-- The length in bytes of an instruction of this form (30_encoding.md R60, R69). -/
def Form.length (f : Form) : Nat := 1 + f.operandBytes

/-- The "bonus" column of 30_encoding.md R61: none, the page-cross bonus of R83, the branch bonus of R84. -/
inductive Bonus where
  | none | pageCross | branch
  deriving DecidableEq, Repr

/-- One row of 30_encoding.md R61: opcode byte, form, base cycles, bonus, and the instruction its two following bytes
make (byte 1 and byte 2 of R60; a form that has fewer ignores the rest). -/
structure OpRow where
  opcode : Byte
  form : Form
  base : Nat
  bonus : Bonus
  build : Byte → Byte → Instr

/-- ADC: the encoding list of R109. -/
def adcRows : List OpRow := [
  ⟨0x69, .immediate, 2, .none, fun b1 _ => .adcImm b1⟩,
  ⟨0x65, .zeroPage, 3, .none, fun b1 _ => .adcZp b1⟩,
  ⟨0x75, .zeroPageX, 4, .none, fun b1 _ => .adcZpX b1⟩,
  ⟨0x6D, .absolute, 4, .none, fun b1 b2 => .adcAbs (word b2 b1)⟩,
  ⟨0x7D, .absoluteX, 4, .pageCross, fun b1 b2 => .adcAbsX (word b2 b1)⟩,
  ⟨0x79, .absoluteY, 4, .pageCross, fun b1 b2 => .adcAbsY (word b2 b1)⟩,
  ⟨0x61, .indexedIndirect, 6, .none, fun b1 _ => .adcIndX b1⟩,
  ⟨0x71, .indirectIndexed, 5, .pageCross, fun b1 _ => .adcIndY b1⟩]

/-- SBC: the encoding list of R110. -/
def sbcRows : List OpRow := [
  ⟨0xE9, .immediate, 2, .none, fun b1 _ => .sbcImm b1⟩,
  ⟨0xE5, .zeroPage, 3, .none, fun b1 _ => .sbcZp b1⟩,
  ⟨0xF5, .zeroPageX, 4, .none, fun b1 _ => .sbcZpX b1⟩,
  ⟨0xED, .absolute, 4, .none, fun b1 b2 => .sbcAbs (word b2 b1)⟩,
  ⟨0xFD, .absoluteX, 4, .pageCross, fun b1 b2 => .sbcAbsX (word b2 b1)⟩,
  ⟨0xF9, .absoluteY, 4, .pageCross, fun b1 b2 => .sbcAbsY (word b2 b1)⟩,
  ⟨0xE1, .indexedIndirect, 6, .none, fun b1 _ => .sbcIndX b1⟩,
  ⟨0xF1, .indirectIndexed, 5, .pageCross, fun b1 _ => .sbcIndY b1⟩]

/-- CMP: the encoding list of R111. -/
def cmpRows : List OpRow := [
  ⟨0xC9, .immediate, 2, .none, fun b1 _ => .cmpImm b1⟩,
  ⟨0xC5, .zeroPage, 3, .none, fun b1 _ => .cmpZp b1⟩,
  ⟨0xD5, .zeroPageX, 4, .none, fun b1 _ => .cmpZpX b1⟩,
  ⟨0xCD, .absolute, 4, .none, fun b1 b2 => .cmpAbs (word b2 b1)⟩,
  ⟨0xDD, .absoluteX, 4, .pageCross, fun b1 b2 => .cmpAbsX (word b2 b1)⟩,
  ⟨0xD9, .absoluteY, 4, .pageCross, fun b1 b2 => .cmpAbsY (word b2 b1)⟩,
  ⟨0xC1, .indexedIndirect, 6, .none, fun b1 _ => .cmpIndX b1⟩,
  ⟨0xD1, .indirectIndexed, 5, .pageCross, fun b1 _ => .cmpIndY b1⟩]

/-- CPX: the encoding list of R112. -/
def cpxRows : List OpRow := [
  ⟨0xE0, .immediate, 2, .none, fun b1 _ => .cpxImm b1⟩,
  ⟨0xE4, .zeroPage, 3, .none, fun b1 _ => .cpxZp b1⟩,
  ⟨0xEC, .absolute, 4, .none, fun b1 b2 => .cpxAbs (word b2 b1)⟩]

/-- CPY: the encoding list of R113. -/
def cpyRows : List OpRow := [
  ⟨0xC0, .immediate, 2, .none, fun b1 _ => .cpyImm b1⟩,
  ⟨0xC4, .zeroPage, 3, .none, fun b1 _ => .cpyZp b1⟩,
  ⟨0xCC, .absolute, 4, .none, fun b1 b2 => .cpyAbs (word b2 b1)⟩]

/-- INC: the encoding list of R114. -/
def incRows : List OpRow := [
  ⟨0xE6, .zeroPage, 5, .none, fun b1 _ => .incZp b1⟩,
  ⟨0xF6, .zeroPageX, 6, .none, fun b1 _ => .incZpX b1⟩,
  ⟨0xEE, .absolute, 6, .none, fun b1 b2 => .incAbs (word b2 b1)⟩,
  ⟨0xFE, .absoluteX, 7, .none, fun b1 b2 => .incAbsX (word b2 b1)⟩]

/-- DEC: the encoding list of R115. -/
def decRows : List OpRow := [
  ⟨0xC6, .zeroPage, 5, .none, fun b1 _ => .decZp b1⟩,
  ⟨0xD6, .zeroPageX, 6, .none, fun b1 _ => .decZpX b1⟩,
  ⟨0xCE, .absolute, 6, .none, fun b1 b2 => .decAbs (word b2 b1)⟩,
  ⟨0xDE, .absoluteX, 7, .none, fun b1 b2 => .decAbsX (word b2 b1)⟩]

/-- INX: the encoding list of R116. -/
def inxRows : List OpRow := [
  ⟨0xE8, .implied, 2, .none, fun _ _ => .inx⟩]

/-- INY: the encoding list of R117. -/
def inyRows : List OpRow := [
  ⟨0xC8, .implied, 2, .none, fun _ _ => .iny⟩]

/-- DEX: the encoding list of R118. -/
def dexRows : List OpRow := [
  ⟨0xCA, .implied, 2, .none, fun _ _ => .dex⟩]

/-- DEY: the encoding list of R119. -/
def deyRows : List OpRow := [
  ⟨0x88, .implied, 2, .none, fun _ _ => .dey⟩]

/-- AND: the encoding list of R121. -/
def andRows : List OpRow := [
  ⟨0x29, .immediate, 2, .none, fun b1 _ => .andImm b1⟩,
  ⟨0x25, .zeroPage, 3, .none, fun b1 _ => .andZp b1⟩,
  ⟨0x35, .zeroPageX, 4, .none, fun b1 _ => .andZpX b1⟩,
  ⟨0x2D, .absolute, 4, .none, fun b1 b2 => .andAbs (word b2 b1)⟩,
  ⟨0x3D, .absoluteX, 4, .pageCross, fun b1 b2 => .andAbsX (word b2 b1)⟩,
  ⟨0x39, .absoluteY, 4, .pageCross, fun b1 b2 => .andAbsY (word b2 b1)⟩,
  ⟨0x21, .indexedIndirect, 6, .none, fun b1 _ => .andIndX b1⟩,
  ⟨0x31, .indirectIndexed, 5, .pageCross, fun b1 _ => .andIndY b1⟩]

/-- EOR: the encoding list of R122. -/
def eorRows : List OpRow := [
  ⟨0x49, .immediate, 2, .none, fun b1 _ => .eorImm b1⟩,
  ⟨0x45, .zeroPage, 3, .none, fun b1 _ => .eorZp b1⟩,
  ⟨0x55, .zeroPageX, 4, .none, fun b1 _ => .eorZpX b1⟩,
  ⟨0x4D, .absolute, 4, .none, fun b1 b2 => .eorAbs (word b2 b1)⟩,
  ⟨0x5D, .absoluteX, 4, .pageCross, fun b1 b2 => .eorAbsX (word b2 b1)⟩,
  ⟨0x59, .absoluteY, 4, .pageCross, fun b1 b2 => .eorAbsY (word b2 b1)⟩,
  ⟨0x41, .indexedIndirect, 6, .none, fun b1 _ => .eorIndX b1⟩,
  ⟨0x51, .indirectIndexed, 5, .pageCross, fun b1 _ => .eorIndY b1⟩]

/-- ORA: the encoding list of R123. -/
def oraRows : List OpRow := [
  ⟨0x09, .immediate, 2, .none, fun b1 _ => .oraImm b1⟩,
  ⟨0x05, .zeroPage, 3, .none, fun b1 _ => .oraZp b1⟩,
  ⟨0x15, .zeroPageX, 4, .none, fun b1 _ => .oraZpX b1⟩,
  ⟨0x0D, .absolute, 4, .none, fun b1 b2 => .oraAbs (word b2 b1)⟩,
  ⟨0x1D, .absoluteX, 4, .pageCross, fun b1 b2 => .oraAbsX (word b2 b1)⟩,
  ⟨0x19, .absoluteY, 4, .pageCross, fun b1 b2 => .oraAbsY (word b2 b1)⟩,
  ⟨0x01, .indexedIndirect, 6, .none, fun b1 _ => .oraIndX b1⟩,
  ⟨0x11, .indirectIndexed, 5, .pageCross, fun b1 _ => .oraIndY b1⟩]

/-- BIT: the encoding list of R124. -/
def bitRows : List OpRow := [
  ⟨0x24, .zeroPage, 3, .none, fun b1 _ => .bitZp b1⟩,
  ⟨0x2C, .absolute, 4, .none, fun b1 b2 => .bitAbs (word b2 b1)⟩]

/-- LDA: the encoding list of R125. -/
def ldaRows : List OpRow := [
  ⟨0xA9, .immediate, 2, .none, fun b1 _ => .ldaImm b1⟩,
  ⟨0xA5, .zeroPage, 3, .none, fun b1 _ => .ldaZp b1⟩,
  ⟨0xB5, .zeroPageX, 4, .none, fun b1 _ => .ldaZpX b1⟩,
  ⟨0xAD, .absolute, 4, .none, fun b1 b2 => .ldaAbs (word b2 b1)⟩,
  ⟨0xBD, .absoluteX, 4, .pageCross, fun b1 b2 => .ldaAbsX (word b2 b1)⟩,
  ⟨0xB9, .absoluteY, 4, .pageCross, fun b1 b2 => .ldaAbsY (word b2 b1)⟩,
  ⟨0xA1, .indexedIndirect, 6, .none, fun b1 _ => .ldaIndX b1⟩,
  ⟨0xB1, .indirectIndexed, 5, .pageCross, fun b1 _ => .ldaIndY b1⟩]

/-- LDX: the encoding list of R126. -/
def ldxRows : List OpRow := [
  ⟨0xA2, .immediate, 2, .none, fun b1 _ => .ldxImm b1⟩,
  ⟨0xA6, .zeroPage, 3, .none, fun b1 _ => .ldxZp b1⟩,
  ⟨0xB6, .zeroPageY, 4, .none, fun b1 _ => .ldxZpY b1⟩,
  ⟨0xAE, .absolute, 4, .none, fun b1 b2 => .ldxAbs (word b2 b1)⟩,
  ⟨0xBE, .absoluteY, 4, .pageCross, fun b1 b2 => .ldxAbsY (word b2 b1)⟩]

/-- LDY: the encoding list of R127. -/
def ldyRows : List OpRow := [
  ⟨0xA0, .immediate, 2, .none, fun b1 _ => .ldyImm b1⟩,
  ⟨0xA4, .zeroPage, 3, .none, fun b1 _ => .ldyZp b1⟩,
  ⟨0xB4, .zeroPageX, 4, .none, fun b1 _ => .ldyZpX b1⟩,
  ⟨0xAC, .absolute, 4, .none, fun b1 b2 => .ldyAbs (word b2 b1)⟩,
  ⟨0xBC, .absoluteX, 4, .pageCross, fun b1 b2 => .ldyAbsX (word b2 b1)⟩]

/-- STA: the encoding list of R128. -/
def staRows : List OpRow := [
  ⟨0x85, .zeroPage, 3, .none, fun b1 _ => .staZp b1⟩,
  ⟨0x95, .zeroPageX, 4, .none, fun b1 _ => .staZpX b1⟩,
  ⟨0x8D, .absolute, 4, .none, fun b1 b2 => .staAbs (word b2 b1)⟩,
  ⟨0x9D, .absoluteX, 5, .none, fun b1 b2 => .staAbsX (word b2 b1)⟩,
  ⟨0x99, .absoluteY, 5, .none, fun b1 b2 => .staAbsY (word b2 b1)⟩,
  ⟨0x81, .indexedIndirect, 6, .none, fun b1 _ => .staIndX b1⟩,
  ⟨0x91, .indirectIndexed, 6, .none, fun b1 _ => .staIndY b1⟩]

/-- STX: the encoding list of R129. -/
def stxRows : List OpRow := [
  ⟨0x86, .zeroPage, 3, .none, fun b1 _ => .stxZp b1⟩,
  ⟨0x96, .zeroPageY, 4, .none, fun b1 _ => .stxZpY b1⟩,
  ⟨0x8E, .absolute, 4, .none, fun b1 b2 => .stxAbs (word b2 b1)⟩]

/-- STY: the encoding list of R130. -/
def styRows : List OpRow := [
  ⟨0x84, .zeroPage, 3, .none, fun b1 _ => .styZp b1⟩,
  ⟨0x94, .zeroPageX, 4, .none, fun b1 _ => .styZpX b1⟩,
  ⟨0x8C, .absolute, 4, .none, fun b1 b2 => .styAbs (word b2 b1)⟩]

/-- TAX: the encoding list of R131. -/
def taxRows : List OpRow := [
  ⟨0xAA, .implied, 2, .none, fun _ _ => .tax⟩]

/-- TAY: the encoding list of R132. -/
def tayRows : List OpRow := [
  ⟨0xA8, .implied, 2, .none, fun _ _ => .tay⟩]

/-- TXA: the encoding list of R133. -/
def txaRows : List OpRow := [
  ⟨0x8A, .implied, 2, .none, fun _ _ => .txa⟩]

/-- TYA: the encoding list of R134. -/
def tyaRows : List OpRow := [
  ⟨0x98, .implied, 2, .none, fun _ _ => .tya⟩]

/-- TSX: the encoding list of R135. -/
def tsxRows : List OpRow := [
  ⟨0xBA, .implied, 2, .none, fun _ _ => .tsx⟩]

/-- TXS: the encoding list of R136. -/
def txsRows : List OpRow := [
  ⟨0x9A, .implied, 2, .none, fun _ _ => .txs⟩]

/-- ASL: the encoding list of R137. -/
def aslRows : List OpRow := [
  ⟨0x0A, .accumulator, 2, .none, fun _ _ => .aslAcc⟩,
  ⟨0x06, .zeroPage, 5, .none, fun b1 _ => .aslZp b1⟩,
  ⟨0x16, .zeroPageX, 6, .none, fun b1 _ => .aslZpX b1⟩,
  ⟨0x0E, .absolute, 6, .none, fun b1 b2 => .aslAbs (word b2 b1)⟩,
  ⟨0x1E, .absoluteX, 7, .none, fun b1 b2 => .aslAbsX (word b2 b1)⟩]

/-- LSR: the encoding list of R138. -/
def lsrRows : List OpRow := [
  ⟨0x4A, .accumulator, 2, .none, fun _ _ => .lsrAcc⟩,
  ⟨0x46, .zeroPage, 5, .none, fun b1 _ => .lsrZp b1⟩,
  ⟨0x56, .zeroPageX, 6, .none, fun b1 _ => .lsrZpX b1⟩,
  ⟨0x4E, .absolute, 6, .none, fun b1 b2 => .lsrAbs (word b2 b1)⟩,
  ⟨0x5E, .absoluteX, 7, .none, fun b1 b2 => .lsrAbsX (word b2 b1)⟩]

/-- ROL: the encoding list of R139. -/
def rolRows : List OpRow := [
  ⟨0x2A, .accumulator, 2, .none, fun _ _ => .rolAcc⟩,
  ⟨0x26, .zeroPage, 5, .none, fun b1 _ => .rolZp b1⟩,
  ⟨0x36, .zeroPageX, 6, .none, fun b1 _ => .rolZpX b1⟩,
  ⟨0x2E, .absolute, 6, .none, fun b1 b2 => .rolAbs (word b2 b1)⟩,
  ⟨0x3E, .absoluteX, 7, .none, fun b1 b2 => .rolAbsX (word b2 b1)⟩]

/-- ROR: the encoding list of R140. -/
def rorRows : List OpRow := [
  ⟨0x6A, .accumulator, 2, .none, fun _ _ => .rorAcc⟩,
  ⟨0x66, .zeroPage, 5, .none, fun b1 _ => .rorZp b1⟩,
  ⟨0x76, .zeroPageX, 6, .none, fun b1 _ => .rorZpX b1⟩,
  ⟨0x6E, .absolute, 6, .none, fun b1 b2 => .rorAbs (word b2 b1)⟩,
  ⟨0x7E, .absoluteX, 7, .none, fun b1 b2 => .rorAbsX (word b2 b1)⟩]

/-- BCC: the encoding list of R142. -/
def bccRows : List OpRow := [
  ⟨0x90, .relative, 2, .branch, fun b1 _ => .bcc b1⟩]

/-- BCS: the encoding list of R143. -/
def bcsRows : List OpRow := [
  ⟨0xB0, .relative, 2, .branch, fun b1 _ => .bcs b1⟩]

/-- BEQ: the encoding list of R144. -/
def beqRows : List OpRow := [
  ⟨0xF0, .relative, 2, .branch, fun b1 _ => .beq b1⟩]

/-- BMI: the encoding list of R145. -/
def bmiRows : List OpRow := [
  ⟨0x30, .relative, 2, .branch, fun b1 _ => .bmi b1⟩]

/-- BNE: the encoding list of R146. -/
def bneRows : List OpRow := [
  ⟨0xD0, .relative, 2, .branch, fun b1 _ => .bne b1⟩]

/-- BPL: the encoding list of R147. -/
def bplRows : List OpRow := [
  ⟨0x10, .relative, 2, .branch, fun b1 _ => .bpl b1⟩]

/-- BVC: the encoding list of R148. -/
def bvcRows : List OpRow := [
  ⟨0x50, .relative, 2, .branch, fun b1 _ => .bvc b1⟩]

/-- BVS: the encoding list of R149. -/
def bvsRows : List OpRow := [
  ⟨0x70, .relative, 2, .branch, fun b1 _ => .bvs b1⟩]

/-- JMP: the encoding list of R150. -/
def jmpRows : List OpRow := [
  ⟨0x4C, .absolute, 3, .none, fun b1 b2 => .jmpAbs (word b2 b1)⟩,
  ⟨0x6C, .indirect, 5, .none, fun b1 b2 => .jmpInd (word b2 b1)⟩]

/-- JSR: the encoding list of R151. -/
def jsrRows : List OpRow := [
  ⟨0x20, .absolute, 6, .none, fun b1 b2 => .jsr (word b2 b1)⟩]

/-- RTS: the encoding list of R152. -/
def rtsRows : List OpRow := [
  ⟨0x60, .implied, 6, .none, fun _ _ => .rts⟩]

/-- PHA: the encoding list of R155. -/
def phaRows : List OpRow := [
  ⟨0x48, .implied, 3, .none, fun _ _ => .pha⟩]

/-- PHP: the encoding list of R156. -/
def phpRows : List OpRow := [
  ⟨0x08, .implied, 3, .none, fun _ _ => .php⟩]

/-- PLA: the encoding list of R157. -/
def plaRows : List OpRow := [
  ⟨0x68, .implied, 4, .none, fun _ _ => .pla⟩]

/-- PLP: the encoding list of R158. -/
def plpRows : List OpRow := [
  ⟨0x28, .implied, 4, .none, fun _ _ => .plp⟩]

/-- BRK: the encoding list of R159. -/
def brkRows : List OpRow := [
  ⟨0x00, .implied, 7, .none, fun _ _ => .brk⟩]

/-- RTI: the encoding list of R160. -/
def rtiRows : List OpRow := [
  ⟨0x40, .implied, 6, .none, fun _ _ => .rti⟩]

/-- CLC: the encoding list of R161. -/
def clcRows : List OpRow := [
  ⟨0x18, .implied, 2, .none, fun _ _ => .clc⟩]

/-- CLD: the encoding list of R162. -/
def cldRows : List OpRow := [
  ⟨0xD8, .implied, 2, .none, fun _ _ => .cld⟩]

/-- CLI: the encoding list of R163. -/
def cliRows : List OpRow := [
  ⟨0x58, .implied, 2, .none, fun _ _ => .cli⟩]

/-- CLV: the encoding list of R164. -/
def clvRows : List OpRow := [
  ⟨0xB8, .implied, 2, .none, fun _ _ => .clv⟩]

/-- SEC: the encoding list of R165. -/
def secRows : List OpRow := [
  ⟨0x38, .implied, 2, .none, fun _ _ => .sec⟩]

/-- SED: the encoding list of R166. -/
def sedRows : List OpRow := [
  ⟨0xF8, .implied, 2, .none, fun _ _ => .sed⟩]

/-- SEI: the encoding list of R167. -/
def seiRows : List OpRow := [
  ⟨0x78, .implied, 2, .none, fun _ _ => .sei⟩]

/-- NOP: the encoding list of R168. -/
def nopRows : List OpRow := [
  ⟨0xEA, .implied, 2, .none, fun _ _ => .nop⟩]

/-- The rows of the Arithmetic family. -/
def arithmeticRows : List OpRow :=
  adcRows ++ sbcRows ++ cmpRows ++ cpxRows ++ cpyRows ++ incRows ++ decRows ++ inxRows ++ inyRows ++ dexRows ++ deyRows

/-- The rows of the Logic family. -/
def logicRows : List OpRow :=
  andRows ++ eorRows ++ oraRows ++ bitRows

/-- The rows of the LoadStore family. -/
def loadStoreRows : List OpRow :=
  ldaRows ++ ldxRows ++ ldyRows ++ staRows ++ stxRows ++ styRows ++ taxRows ++ tayRows ++ txaRows ++ tyaRows ++ tsxRows ++ txsRows

/-- The rows of the Shift family. -/
def shiftRows : List OpRow :=
  aslRows ++ lsrRows ++ rolRows ++ rorRows

/-- The rows of the Control family. -/
def controlRows : List OpRow :=
  bccRows ++ bcsRows ++ beqRows ++ bmiRows ++ bneRows ++ bplRows ++ bvcRows ++ bvsRows ++ jmpRows ++ jsrRows ++ rtsRows

/-- The rows of the System family. -/
def systemRows : List OpRow :=
  phaRows ++ phpRows ++ plaRows ++ plpRows ++ brkRows ++ rtiRows ++ clcRows ++ cldRows ++ cliRows ++ clvRows ++ secRows ++ sedRows ++ seiRows ++ nopRows
/-- The 151 documented opcodes (30_encoding.md R61). -/
def opcodeTable : List OpRow :=
  loadStoreRows ++ arithmeticRows ++ logicRows ++ shiftRows ++ controlRows ++ systemRows

/-- The row of a documented opcode: exact match of the whole byte (30_encoding.md R63). -/
def findRow (op : Byte) : Option OpRow := opcodeTable.find? fun r => r.opcode == op

/-! ### The decoder -/

/-- What an undocumented byte is: the halt when it is HALT_OPCODE, else an unknown opcode (40_engine.md R77). -/
def decodeUndocumented (halt : Option Byte) (op : Byte) : Instr :=
  if halt = some op then .hlt else .unknown op

/-- Decoding is total on the opcode byte and the two bytes after it (30_encoding.md R63, 40_engine.md R77). An
instruction shorter than three bytes ignores what follows it. -/
def decode (halt : Option Byte) (op b1 b2 : Byte) : Instr :=
  match findRow op with
  | some r => r.build b1 b2
  | none => decodeUndocumented halt op

/-- The length of the instruction an opcode byte starts (30_encoding.md R69): its form's, or 1 for HALT_OPCODE and for
an unknown opcode. -/
def opcodeLength (op : Byte) : Nat :=
  match findRow op with
  | some r => r.form.length
  | none => 1

/-- Why a list of bytes holds no whole instruction: raised by `decodeBytes` only, never by a step (a step reads its
bytes from memory, where every address has one), so a refusal here is safe. -/
inductive DecodeError where
  /-- The list is empty. Safe. -/
  | noBytes
  /-- The opcode's form takes more operand bytes than the list has. Safe. -/
  | truncated (op : Byte)
  deriving DecidableEq, Repr

/-- The instruction at the head of a list of bytes and the bytes after it, on any bytes at all. -/
def decodeBytes (halt : Option Byte) : List Byte → Except DecodeError (Instr × List Byte)
  | [] => .error .noBytes
  | op :: rest =>
    if rest.length + 1 < opcodeLength op then .error (.truncated op)
    else .ok (decode halt op (rest.getD 0 0) (rest.getD 1 0), rest.drop (opcodeLength op - 1))

/-- Byte `k` of an instruction whose bits are numbered as spec/opcode_table.json numbers them: byte 0 is the opcode and
lies at the lowest address; bits at `nbits` and above are 0. -/
def tableByte (nbits w k : Nat) : Byte := BitVec.ofNat 8 ((w % 2 ^ nbits) / 256 ^ k)

/-- The bytes of such an instruction, zero-filled to the longest length, 3 (30_encoding.md R69). -/
def tableBytes (nbits w : Nat) : List Byte := [tableByte nbits w 0, tableByte nbits w 1, tableByte nbits w 2]

/-- The instruction the decoder reads from an instruction whose bits are `w`. HALT_OPCODE is the one of reset. -/
def decodeTableWord (nbits w : Nat) : Option Instr :=
  match decodeBytes Config.haltOpcode (tableBytes nbits w) with
  | .ok (i, _) => some i
  | .error _ => none

/-! ### The encoder -/

/-- The bytes of an instruction, opcode first, 16-bit operands low byte first (30_encoding.md R59, R60, R64). The halt
instruction has the byte HALT_OPCODE, and none where that is NONE (R67). -/
def encode (halt : Option Byte) : Instr → List Byte
  | .adcImm imm => [0x69, imm]
  | .adcZp zp => [0x65, zp]
  | .adcZpX zp => [0x75, zp]
  | .adcAbs addr => [0x6D, lo addr, hi addr]
  | .adcAbsX addr => [0x7D, lo addr, hi addr]
  | .adcAbsY addr => [0x79, lo addr, hi addr]
  | .adcIndX zp => [0x61, zp]
  | .adcIndY zp => [0x71, zp]
  | .sbcImm imm => [0xE9, imm]
  | .sbcZp zp => [0xE5, zp]
  | .sbcZpX zp => [0xF5, zp]
  | .sbcAbs addr => [0xED, lo addr, hi addr]
  | .sbcAbsX addr => [0xFD, lo addr, hi addr]
  | .sbcAbsY addr => [0xF9, lo addr, hi addr]
  | .sbcIndX zp => [0xE1, zp]
  | .sbcIndY zp => [0xF1, zp]
  | .cmpImm imm => [0xC9, imm]
  | .cmpZp zp => [0xC5, zp]
  | .cmpZpX zp => [0xD5, zp]
  | .cmpAbs addr => [0xCD, lo addr, hi addr]
  | .cmpAbsX addr => [0xDD, lo addr, hi addr]
  | .cmpAbsY addr => [0xD9, lo addr, hi addr]
  | .cmpIndX zp => [0xC1, zp]
  | .cmpIndY zp => [0xD1, zp]
  | .cpxImm imm => [0xE0, imm]
  | .cpxZp zp => [0xE4, zp]
  | .cpxAbs addr => [0xEC, lo addr, hi addr]
  | .cpyImm imm => [0xC0, imm]
  | .cpyZp zp => [0xC4, zp]
  | .cpyAbs addr => [0xCC, lo addr, hi addr]
  | .incZp zp => [0xE6, zp]
  | .incZpX zp => [0xF6, zp]
  | .incAbs addr => [0xEE, lo addr, hi addr]
  | .incAbsX addr => [0xFE, lo addr, hi addr]
  | .decZp zp => [0xC6, zp]
  | .decZpX zp => [0xD6, zp]
  | .decAbs addr => [0xCE, lo addr, hi addr]
  | .decAbsX addr => [0xDE, lo addr, hi addr]
  | .inx => [0xE8]
  | .iny => [0xC8]
  | .dex => [0xCA]
  | .dey => [0x88]
  | .andImm imm => [0x29, imm]
  | .andZp zp => [0x25, zp]
  | .andZpX zp => [0x35, zp]
  | .andAbs addr => [0x2D, lo addr, hi addr]
  | .andAbsX addr => [0x3D, lo addr, hi addr]
  | .andAbsY addr => [0x39, lo addr, hi addr]
  | .andIndX zp => [0x21, zp]
  | .andIndY zp => [0x31, zp]
  | .eorImm imm => [0x49, imm]
  | .eorZp zp => [0x45, zp]
  | .eorZpX zp => [0x55, zp]
  | .eorAbs addr => [0x4D, lo addr, hi addr]
  | .eorAbsX addr => [0x5D, lo addr, hi addr]
  | .eorAbsY addr => [0x59, lo addr, hi addr]
  | .eorIndX zp => [0x41, zp]
  | .eorIndY zp => [0x51, zp]
  | .oraImm imm => [0x09, imm]
  | .oraZp zp => [0x05, zp]
  | .oraZpX zp => [0x15, zp]
  | .oraAbs addr => [0x0D, lo addr, hi addr]
  | .oraAbsX addr => [0x1D, lo addr, hi addr]
  | .oraAbsY addr => [0x19, lo addr, hi addr]
  | .oraIndX zp => [0x01, zp]
  | .oraIndY zp => [0x11, zp]
  | .bitZp zp => [0x24, zp]
  | .bitAbs addr => [0x2C, lo addr, hi addr]
  | .ldaImm imm => [0xA9, imm]
  | .ldaZp zp => [0xA5, zp]
  | .ldaZpX zp => [0xB5, zp]
  | .ldaAbs addr => [0xAD, lo addr, hi addr]
  | .ldaAbsX addr => [0xBD, lo addr, hi addr]
  | .ldaAbsY addr => [0xB9, lo addr, hi addr]
  | .ldaIndX zp => [0xA1, zp]
  | .ldaIndY zp => [0xB1, zp]
  | .ldxImm imm => [0xA2, imm]
  | .ldxZp zp => [0xA6, zp]
  | .ldxZpY zp => [0xB6, zp]
  | .ldxAbs addr => [0xAE, lo addr, hi addr]
  | .ldxAbsY addr => [0xBE, lo addr, hi addr]
  | .ldyImm imm => [0xA0, imm]
  | .ldyZp zp => [0xA4, zp]
  | .ldyZpX zp => [0xB4, zp]
  | .ldyAbs addr => [0xAC, lo addr, hi addr]
  | .ldyAbsX addr => [0xBC, lo addr, hi addr]
  | .staZp zp => [0x85, zp]
  | .staZpX zp => [0x95, zp]
  | .staAbs addr => [0x8D, lo addr, hi addr]
  | .staAbsX addr => [0x9D, lo addr, hi addr]
  | .staAbsY addr => [0x99, lo addr, hi addr]
  | .staIndX zp => [0x81, zp]
  | .staIndY zp => [0x91, zp]
  | .stxZp zp => [0x86, zp]
  | .stxZpY zp => [0x96, zp]
  | .stxAbs addr => [0x8E, lo addr, hi addr]
  | .styZp zp => [0x84, zp]
  | .styZpX zp => [0x94, zp]
  | .styAbs addr => [0x8C, lo addr, hi addr]
  | .tax => [0xAA]
  | .tay => [0xA8]
  | .txa => [0x8A]
  | .tya => [0x98]
  | .tsx => [0xBA]
  | .txs => [0x9A]
  | .aslAcc => [0x0A]
  | .aslZp zp => [0x06, zp]
  | .aslZpX zp => [0x16, zp]
  | .aslAbs addr => [0x0E, lo addr, hi addr]
  | .aslAbsX addr => [0x1E, lo addr, hi addr]
  | .lsrAcc => [0x4A]
  | .lsrZp zp => [0x46, zp]
  | .lsrZpX zp => [0x56, zp]
  | .lsrAbs addr => [0x4E, lo addr, hi addr]
  | .lsrAbsX addr => [0x5E, lo addr, hi addr]
  | .rolAcc => [0x2A]
  | .rolZp zp => [0x26, zp]
  | .rolZpX zp => [0x36, zp]
  | .rolAbs addr => [0x2E, lo addr, hi addr]
  | .rolAbsX addr => [0x3E, lo addr, hi addr]
  | .rorAcc => [0x6A]
  | .rorZp zp => [0x66, zp]
  | .rorZpX zp => [0x76, zp]
  | .rorAbs addr => [0x6E, lo addr, hi addr]
  | .rorAbsX addr => [0x7E, lo addr, hi addr]
  | .bcc rel => [0x90, rel]
  | .bcs rel => [0xB0, rel]
  | .beq rel => [0xF0, rel]
  | .bmi rel => [0x30, rel]
  | .bne rel => [0xD0, rel]
  | .bpl rel => [0x10, rel]
  | .bvc rel => [0x50, rel]
  | .bvs rel => [0x70, rel]
  | .jmpAbs addr => [0x4C, lo addr, hi addr]
  | .jmpInd ptr => [0x6C, lo ptr, hi ptr]
  | .jsr addr => [0x20, lo addr, hi addr]
  | .rts => [0x60]
  | .pha => [0x48]
  | .php => [0x08]
  | .pla => [0x68]
  | .plp => [0x28]
  | .brk => [0x00]
  | .rti => [0x40]
  | .clc => [0x18]
  | .cld => [0xD8]
  | .cli => [0x58]
  | .clv => [0xB8]
  | .sec => [0x38]
  | .sed => [0xF8]
  | .sei => [0x78]
  | .nop => [0xEA]
  | .hlt => match halt with
    | some h => [h]
    | none => []
  | .unknown op => [op]

end Sys2Proof
end

