-- ==== Sys2Proof/Machine/State.lean ====
section
/-!
DEFINITION. The state of the core (10_state.md R13, R30, R31), the reasons a step can stop, and the state right after
construction and Reset. Every field is plain data. The fields `outcome`, `diags` and `cfg` are the model's own: what the
last Step returned, the event history R31 asks a model to keep beside the state, and the parameters of 00_scope.md R6.
-/
namespace Sys2Proof.Machine

/-- The seven independent status flags (10_state.md R20). There is no eighth stored bit. -/
structure Flags where
  n : Bool
  v : Bool
  b : Bool
  d : Bool
  i : Bool
  z : Bool
  c : Bool
  deriving DecidableEq, Repr

/-- The address space (20_memory.md R38) as the bytes that differ from MEM_INIT: addresses strictly rising, each below
65536, no entry equal to MEM_INIT (`Memory.wf`). An unlisted address reads MEM_INIT (R42, R52). -/
abbrev Memory := List Host.Cell

/-- What `Step()` returns (40_engine.md R76): Continue, or Halt for the halt opcode. -/
inductive StepOutcome where
  | cont
  | halt
  deriving DecidableEq, Repr

/-- The two states of the execute loop (10_state.md R30, 40_engine.md R75). -/
inductive LoopStatus where
  | running
  | halted
  deriving DecidableEq, Repr

/-- A diagnostic event (60_exceptions.md R171). -/
inductive Diag where
  /-- UNKNOWN_OPCODE: CYC after the fetch cycle, and the byte fetched (46_stack_system.md R170). -/
  | unknownOpcode (cycles : Nat) (opcode : Byte)
  /-- ILLEGAL_MODE, which no opcode of the table reaches (40_engine.md R108). -/
  | illegalMode (opcode : Byte)
  deriving DecidableEq, Repr

/-- The state of the core. -/
structure State where
  /-- A, the accumulator (10_state.md R15). -/
  a : Byte
  /-- X (10_state.md R16). -/
  x : Byte
  /-- Y (10_state.md R17). -/
  y : Byte
  /-- SP; the next free stack byte is at 0x0100 + SP (10_state.md R18). -/
  sp : Byte
  /-- PC, the address of the next instruction byte (10_state.md R19). -/
  pc : Addr
  /-- The status flags (10_state.md R20). -/
  flags : Flags
  /-- CYC, the total cycles since the last Reset, unbounded (10_state.md R28). -/
  cyc : Nat
  /-- M, the address space (20_memory.md R38). -/
  mem : Memory
  /-- The remaining budget of the Execute call that is running, `none` while none is (10_state.md R30, R33). -/
  remaining : Option Int
  /-- What the last Step returned (40_engine.md R76); the model's own field. -/
  outcome : StepOutcome
  /-- The diagnostic events emitted so far, oldest first (10_state.md R31); the model's own field. -/
  diags : List Diag
  /-- The parameters (00_scope.md R6); no step changes them; the model's own field. -/
  cfg : Params
  deriving DecidableEq, Repr

/-- Why a step faults. -/
inductive Fault where
  /-- Raised by `execUnknown`, and only under UNKNOWN_OPCODE_POLICY = fault (46_stack_system.md R170,
  92_eei_decisions.md D25). Safe: the machine stops where the default policy goes on. -/
  | unknownOpcode (op : Byte)
  deriving DecidableEq, Repr

/-- Why a step, or an inspection by the host, is refused. -/
inductive Refusal where
  /-- Reserved for an arm of `exec` that has no meaning; this model has none. Safe. -/
  | notModelled (mnemonic : String)
  /-- Raised by ADC and SBC while D = 1, and only under DECIMAL_POLICY = refuse (41_arithmetic.md R109, R110,
  92_eei_decisions.md D5). Safe: the model says nothing where the default policy goes on. -/
  | decimalMode
  /-- Raised by the host's inspection of a byte range whose first address is above its last (70_reset_and_hazards.md
  R188, 92_eei_decisions.md D30); by no step. Safe. -/
  | reversedRange (first last : Addr)
  deriving DecidableEq, Repr

/-- What a meaning answers. -/
abbrev Result := Host.Outcome State Fault Refusal

/-- The state right after construction with the default parameters and Reset, nothing written to memory
(10_state.md R33, 70_reset_and_hazards.md R183, R185): both vector bytes are unlisted and read MEM_INIT. -/
def State.reset : State where
  a := 0
  x := 0
  y := 0
  sp := 0xFF
  pc := Params.default.memInit ++ Params.default.memInit
  flags := { n := false, v := false, b := false, d := false, i := false, z := false, c := false }
  cyc := 0
  mem := []
  remaining := none
  outcome := .cont
  diags := []
  cfg := Params.default

end Sys2Proof.Machine
end

