-- ==== Sys2Proof/Machine/Flags.lean ====
section
/-!
DEFINITION. The status register packed and unpacked (10_state.md R25, R26), the flag helpers (40_engine.md R101) and the
8-bit ALU (R102 to R107), each written from its rule: operands become exact integers, the result is narrowed at the end.
-/
namespace Sys2Proof.Machine

/-- A Boolean as a number: true = 1, false = 0 (00_scope.md R9). -/
def bit (c : Bool) : Nat := if c then 1 else 0

/-- Bit 7 of a byte, its sign bit (00_scope.md R8). -/
def bit7 (v : Byte) : Bool := v.getLsbD 7

/-- `encodeStatus()`: N V 1 B D I Z C, bit 7 to bit 0 (10_state.md R25). -/
def encodeStatus (f : Flags) : Byte :=
  BitVec.ofBool f.n ++ BitVec.ofBool f.v ++ 1#1 ++ BitVec.ofBool f.b ++
    BitVec.ofBool f.d ++ BitVec.ofBool f.i ++ BitVec.ofBool f.z ++ BitVec.ofBool f.c

/-- `decodeStatus(b)`: all seven flags, B included; bit 5 is ignored (10_state.md R26). -/
def decodeStatus (p : Byte) : Flags where
  n := p.getLsbD 7
  v := p.getLsbD 6
  b := p.getLsbD 4
  d := p.getLsbD 3
  i := p.getLsbD 2
  z := p.getLsbD 1
  c := p.getLsbD 0

/-- `setZN(v)` (40_engine.md R101). -/
def Flags.setZN (f : Flags) (v : Byte) : Flags := { f with z := v == 0, n := bit7 v }

/-- A result byte, the carry and the overflow an adder gives (40_engine.md R102, R103). -/
structure AluOut where
  r : Byte
  cout : Bool
  v : Bool
  deriving DecidableEq, Repr

/-- `alu_add(a, b, c)` (40_engine.md R102). -/
def aluAdd (a b : Byte) (c : Bool) : AluOut :=
  let t : Nat := a.toNat + b.toNat + bit c
  let r := BitVec.ofNat 8 t
  { r := r, cout := decide (t > 0xFF), v := (~~~(a ^^^ b) &&& (a ^^^ r) &&& 0x80) != 0 }

/-- `alu_sub(a, b, c)`; c = 1 means no borrow in (40_engine.md R103). -/
def aluSub (a b : Byte) (c : Bool) : AluOut :=
  let t : Int := (a.toNat : Int) - b.toNat - (1 - bit c)
  let r := BitVec.ofInt 8 t
  { r := r, cout := decide (t ≥ 0), v := ((a ^^^ b) &&& (a ^^^ r) &&& 0x80) != 0 }

/-- The flags ADC and SBC write from an adder's output: C, V, Z, N (41_arithmetic.md R109, R110). -/
def Flags.setAlu (f : Flags) (o : AluOut) : Flags := { f.setZN o.r with c := o.cout, v := o.v }

/-- `alu_cmp(reg, m)`: C, Z, N; V is kept and nothing is stored (40_engine.md R104). -/
def Flags.compare (f : Flags) (reg m : Byte) : Flags :=
  { f with c := decide (reg.toNat ≥ m.toNat), z := reg == m, n := bit7 (reg - m) }

/-- BIT's flags: Z from `A & m`, N and V from bits 7 and 6 of m (42_logic.md R124). -/
def Flags.bitTest (f : Flags) (acc m : Byte) : Flags :=
  { f with z := (acc &&& m) == 0, n := m.getLsbD 7, v := m.getLsbD 6 }

/-- The result byte and the bit shifted out of a shift or rotate (40_engine.md R105). -/
structure ShiftOut where
  r : Byte
  cout : Bool
  deriving DecidableEq, Repr

/-- `asl(v)` (40_engine.md R105). -/
def asl (v : Byte) : ShiftOut := { r := BitVec.ofNat 8 (v.toNat * 2), cout := v.getLsbD 7 }

/-- `lsr(v)` (40_engine.md R105). -/
def lsr (v : Byte) : ShiftOut := { r := BitVec.ofNat 8 (v.toNat / 2), cout := v.getLsbD 0 }

/-- `rol(v, c)`: the old carry enters bit 0 (40_engine.md R105). -/
def rol (v : Byte) (c : Bool) : ShiftOut :=
  { r := BitVec.ofNat 8 (v.toNat * 2 + bit c), cout := v.getLsbD 7 }

/-- `ror(v, c)`: the old carry enters bit 7 (40_engine.md R105). -/
def ror (v : Byte) (c : Bool) : ShiftOut :=
  { r := BitVec.ofNat 8 (v.toNat / 2 + bit c * 0x80), cout := v.getLsbD 0 }

/-- The flags a shift writes: C, Z, N (44_shift_rotate.md R137 to R140). -/
def Flags.setShift (f : Flags) (o : ShiftOut) : Flags := { f.setZN o.r with c := o.cout }

/-- `inc8(v) = v +8 1` (40_engine.md R107). -/
def inc8 (v : Byte) : Byte := v + 1

/-- `dec8(v) = v -8 1` (40_engine.md R107). -/
def dec8 (v : Byte) : Byte := v - 1

end Sys2Proof.Machine
end

