-- ==== Sys2Proof/Machine/Ops.lean ====
section
/-!
DEFINITION. The named operations over memory and registers: the byte store and its canonical form (20_memory.md R38 to
R45), the register writes, the end of an instruction (40_engine.md R76 to R81), the stack (46_stack_system.md R154), the
BRK trap and the return from it (46_stack_system.md R159, R160; 60_exceptions.md R176, R177), and the diagnostic event
(60_exceptions.md R171).
-/
namespace Sys2Proof.Machine

/-! ### The byte store -/

/-- The byte a memory holds at an address; an unlisted address reads `init` (20_memory.md R39, R42, R52). -/
def Memory.read (init : Byte) : Memory → Nat → Byte
  | [], _ => init
  | (k, v) :: m, a => if k = a then v else Memory.read init m a

/-- The entries of every address but `a`. -/
def Memory.erase (a : Nat) : Memory → Memory
  | [] => []
  | (k, v) :: m => if k = a then Memory.erase a m else (k, v) :: Memory.erase a m

/-- An entry put in its place by address. -/
def Memory.insert (a : Nat) (v : Byte) : Memory → Memory
  | [] => [(a, v)]
  | (k, w) :: m =>
    if a < k then (a, v) :: (k, w) :: m
    else if a = k then (a, v) :: m
    else (k, w) :: Memory.insert a v m

/-- A byte stored (20_memory.md R40), keeping the canonical form: writing what an unlisted address reads removes the
entry. -/
def Memory.write (init : Byte) (a : Nat) (v : Byte) (m : Memory) : Memory :=
  if v = init then Memory.erase a m else Memory.insert a v m

/-- Every address of `m` is above `low`, below 65536, and above the one before it; no entry is `init`. -/
def Memory.wfFrom (init : Byte) : Option Nat → Memory → Bool
  | _, [] => true
  | low, (k, v) :: m =>
    (match low with | none => true | some l => decide (l < k)) && decide (k < 65536) && (v != init) &&
      Memory.wfFrom init (some k) m

/-- The canonical form of a memory whose unlisted addresses read `init`: addresses strictly rising and below 65536
(20_memory.md R38), no entry equal to `init`. -/
def Memory.wf (init : Byte) (m : Memory) : Bool := Memory.wfFrom init none m

/-- What an unlisted address reads as: MEM_INIT (20_memory.md R42, R52). -/
def State.unlisted (s : State) : Byte := s.cfg.memInit

/-- `MemRead(a, 1)`: never fails and changes nothing (20_memory.md R39). -/
def State.readByte (s : State) (a : Addr) : Byte := Memory.read s.unlisted s.mem a.toNat

/-- `MemWrite(a, 1, v)`: no effect beyond the store (20_memory.md R40). -/
def State.writeByte (s : State) (a : Addr) (v : Byte) : State :=
  { s with mem := Memory.write s.unlisted a.toNat v s.mem }

/-- `read16(a)`, the second address wrapping modulo 65536 (20_memory.md R45). -/
def State.read16 (s : State) (a : Addr) : Addr := word (s.readByte (a + 1)) (s.readByte a)

/-- `read16zp(z)`: both bytes in page 0 (20_memory.md R45, 92_eei_decisions.md D6, D7). -/
def State.read16zp (s : State) (z : Byte) : Addr := word (s.readByte (zext16 (z + 1))) (s.readByte (zext16 z))

/-- `read16bug(p)`: the high byte from the pointer's own page (20_memory.md R45). -/
def State.read16bug (s : State) (p : Addr) : Addr := word (s.readByte (word (hi p) (lo p + 1))) (s.readByte p)

/-! ### Register writes -/

/-- A written (10_state.md R15). -/
def State.setA (s : State) (v : Byte) : State := { s with a := v }

/-- X written (10_state.md R16). -/
def State.setX (s : State) (v : Byte) : State := { s with x := v }

/-- Y written (10_state.md R17). -/
def State.setY (s : State) (v : Byte) : State := { s with y := v }

/-- SP written (10_state.md R18). -/
def State.setSp (s : State) (v : Byte) : State := { s with sp := v }

/-- PC written (10_state.md R19). -/
def State.setPc (s : State) (t : Addr) : State := { s with pc := t }

/-- The flags written (10_state.md R20). -/
def State.setFlags (s : State) (f : Flags) : State := { s with flags := f }

/-- Z and N written from a result (40_engine.md R101). -/
def State.setZN (s : State) (v : Byte) : State := s.setFlags (s.flags.setZN v)

/-! ### The execute loop's bookkeeping -/

/-- The loop status of the running Execute call: Running while the remaining budget is positive (10_state.md R30,
40_engine.md R75); `none` while no call runs. -/
def State.loopStatus (s : State) : Option LoopStatus :=
  s.remaining.map fun r => if r > 0 then .running else .halted

/-- What every instruction does beside its own effect: PC is past its `len` bytes (40_engine.md R76, R78), CYC has
gained its whole cost and the budget is charged with it (R75, R80, R85), and the Step returns Continue (R76). -/
def State.completed (s : State) (len cost : Nat) : State :=
  { s with
    pc := s.pc + BitVec.ofNat 16 len
    cyc := s.cyc + cost
    remaining := s.remaining.map fun r => r - cost
    outcome := .cont }

/-- The Step returns Halt, which forces the remaining budget to zero (40_engine.md R75, R76; 46_stack_system.md R169). -/
def State.halting (s : State) : State :=
  { s with remaining := s.remaining.map fun _ => 0, outcome := .halt }

/-- `raise Diag(kind, info)`: the event joins the history; nothing else changes (60_exceptions.md R171). -/
def State.raiseDiag (s : State) (d : Diag) : State := { s with diags := s.diags ++ [d] }

/-! ### The stack -/

/-- The address of the stack byte SP names: 0x0100 + SP (10_state.md R18). -/
def stackAddr (sp : Byte) : Addr := 0x0100 + zext16 sp

/-- `push(v)` (46_stack_system.md R154). -/
def State.push (s : State) (v : Byte) : State := (s.writeByte (stackAddr s.sp) v).setSp (s.sp - 1)

/-- A 16-bit value pushed high byte first (46_stack_system.md R154). -/
def State.push16 (s : State) (w : Addr) : State := (s.push (hi w)).push (lo w)

/-- The byte `pull()` returns (46_stack_system.md R154). -/
def State.pulled (s : State) : Byte := s.readByte (stackAddr (s.sp + 1))

/-- The state `pull()` leaves (46_stack_system.md R154). -/
def State.afterPull (s : State) : State := s.setSp (s.sp + 1)

/-- The 16-bit value two pulls return, low byte first (46_stack_system.md R154). -/
def State.pulled16 (s : State) : Addr := word s.afterPull.pulled s.pulled

/-- The state two pulls leave. -/
def State.afterPull16 (s : State) : State := s.afterPull.afterPull

/-! ### The BRK trap and the return from it -/

/-- BRK_RETURN_OFFSET as a number (00_scope.md R6). -/
def brkOffset : BrkReturnOffset → Addr
  | .one => 1
  | .two => 2

/-- The return address BRK pushes: the address of its opcode plus BRK_RETURN_OFFSET (46_stack_system.md R159). -/
def State.brkReturnAddr (s : State) : Addr := s.pc + brkOffset s.cfg.brkReturn

/-- The BRK vector (20_memory.md R50). -/
def brkVector : Addr := 0xFFFE

/-- The reset vector (20_memory.md R50). -/
def resetVector : Addr := 0xFFFC

/-- B is set before the status is packed (92_eei_decisions.md D10). -/
def Flags.withBreak (f : Flags) : Flags := { f with b := true }

/-- I is set after the push, when BRK_SETS_I (92_eei_decisions.md D9). -/
def Flags.masked (f : Flags) (setsI : Bool) : Flags := { f with i := f.i || setsI }

/-- Trap entry (46_stack_system.md R159, 60_exceptions.md R176), on the state whose PC is the BRK opcode's address. The
vector is read after the pushes. -/
def State.takeBreak (s : State) : State :=
  let broken := (s.completed 1 7).setFlags s.flags.withBreak
  let framed := (broken.push16 s.brkReturnAddr).push (encodeStatus broken.flags)
  let masked := framed.setFlags (framed.flags.masked s.cfg.brkSetsI)
  masked.setPc (masked.read16 brkVector)

/-- Trap return (46_stack_system.md R160, 60_exceptions.md R177): all seven flags from the pulled byte, then PC low and
high, with no + 1. -/
def State.returnFromBreak (s : State) : State :=
  let run := s.completed 1 6
  let unpacked := run.afterPull.setFlags (decodeStatus run.pulled)
  unpacked.afterPull16.setPc unpacked.pulled16

end Sys2Proof.Machine
end

