-- ==== Sys2Proof/Machine/Operands.lean ====
section
/-!
DEFINITION. The addressing-mode resolver (40_engine.md R86 to R99) and operand access (R100). An `Operand` is one of the
eleven modes the spec names, with the operand bytes the instruction holds; `resolve` gives its location and whether the
indexed address crossed a page. Resolving reads registers and pointer bytes only and changes no state.
-/
namespace Sys2Proof.Machine

/-- The eleven modes of 40_engine.md R87 to R97, with their operand bytes. -/
inductive Operand where
  | accumulator
  | immediate (v : Byte)
  | zeroPage (z : Byte)
  | zeroPageX (z : Byte)
  | zeroPageY (z : Byte)
  | absolute (a : Addr)
  | absoluteX (base : Addr)
  | absoluteY (base : Addr)
  | indirect (p : Addr)
  | indexedIndirect (z : Byte)
  | indirectIndexed (z : Byte)
  deriving DecidableEq, Repr

/-- The length of an instruction with this operand (30_encoding.md R60, R69). -/
def Operand.length : Operand → Nat
  | .accumulator => 1
  | .immediate _ => 2
  | .zeroPage _ => 2
  | .zeroPageX _ => 2
  | .zeroPageY _ => 2
  | .absolute _ => 3
  | .absoluteX _ => 3
  | .absoluteY _ => 3
  | .indirect _ => 3
  | .indexedIndirect _ => 2
  | .indirectIndexed _ => 2

/-- An operand location (40_engine.md R86). -/
inductive Loc where
  | imm (v : Byte)
  | acc
  | mem (ea : Addr)
  deriving DecidableEq, Repr

/-- What the resolver gives: the location and the page-cross bit (40_engine.md R86). -/
structure Resolved where
  loc : Loc
  crossed : Bool
  deriving DecidableEq, Repr

/-- Two addresses lie in different pages (00_scope.md, glossary "Page cross"). -/
def pageCross (base ea : Addr) : Bool := hi base != hi ea

/-- A 16-bit base plus an index register, with the page-cross bit (40_engine.md R92, R93, R96). -/
def indexed (base : Addr) (index : Byte) : Resolved :=
  { loc := .mem (base + zext16 index), crossed := pageCross base (base + zext16 index) }

/-- A location reached without indexing a 16-bit base: no page cross. -/
def plain (l : Loc) : Resolved := { loc := l, crossed := false }

/-- `resolve(mode)` (40_engine.md R87 to R97). -/
def resolve (o : Operand) (s : State) : Resolved :=
  match o with
  | .accumulator => plain .acc
  | .immediate v => plain (.imm v)
  | .zeroPage z => plain (.mem (zext16 z))
  | .zeroPageX z => plain (.mem (zext16 (z + s.x)))
  | .zeroPageY z => plain (.mem (zext16 (z + s.y)))
  | .absolute a => plain (.mem a)
  | .absoluteX base => indexed base s.x
  | .absoluteY base => indexed base s.y
  | .indirect p => plain (.mem (s.read16bug p))
  | .indexedIndirect z => plain (.mem (s.read16zp (z + s.x)))
  | .indirectIndexed z => indexed (s.read16zp z) s.y

/-- `readOperand(loc)` (40_engine.md R100). -/
def readOperand (l : Loc) (s : State) : Byte :=
  match l with
  | .imm v => v
  | .acc => s.a
  | .mem a => s.readByte a

/-- `writeOperand(loc, v)` (40_engine.md R100). No instruction writes an immediate operand. -/
def writeOperand (l : Loc) (v : Byte) (s : State) : State :=
  match l with
  | .imm _ => s
  | .acc => s.setA v
  | .mem a => s.writeByte a v

/-- The operand byte of a mode: `readOperand(resolve(mode))` (40_engine.md R100). -/
def operandValue (o : Operand) (s : State) : Byte := readOperand (resolve o s).loc s

/-- The page-cross bonus of the read class (40_engine.md R83). -/
def pageBonus (o : Operand) (s : State) : Nat := bit (resolve o s).crossed

/-- `resolveRel()`: the target, relative to the address of the next instruction (40_engine.md R99). -/
def branchTarget (rel : Byte) (next : Addr) : Addr := next + sext16 rel

/-- The operand of a table row: its form and the two bytes after the opcode (30_encoding.md R60, R64). Implied and
Relative have none. -/
def operandOf (f : Form) (b1 b2 : Byte) : Option Operand :=
  match f with
  | .implied => none
  | .relative => none
  | .accumulator => some .accumulator
  | .immediate => some (.immediate b1)
  | .zeroPage => some (.zeroPage b1)
  | .zeroPageX => some (.zeroPageX b1)
  | .zeroPageY => some (.zeroPageY b1)
  | .absolute => some (.absolute (word b2 b1))
  | .absoluteX => some (.absoluteX (word b2 b1))
  | .absoluteY => some (.absoluteY (word b2 b1))
  | .indirect => some (.indirect (word b2 b1))
  | .indexedIndirect => some (.indexedIndirect b1)
  | .indirectIndexed => some (.indirectIndexed b1)

/-- What a handler gets for a mode it does not support: the sentinel 0xFF and the ILLEGAL_MODE event (40_engine.md R108,
60_exceptions.md R172). `exec` hands every meaning only a mode of its own row, so no step reaches this (R108, 92 D26). -/
def illegalModeOperand (opcode : Byte) (s : State) : Byte × State := (0xFF, s.raiseDiag (.illegalMode opcode))

/-! ### The three shapes of an instruction with an operand -/

/-- Read class (20_memory.md R47, 40_engine.md R83): the operand byte is read, then `f` writes registers and flags; the
cost is the base plus the page-cross bonus. -/
def readClass (o : Operand) (base : Nat) (f : Byte → State → State) (s : State) : Result :=
  .next (f (operandValue o s) (s.completed o.length (base + pageBonus o s)))

/-- Store class (20_memory.md R47, 40_engine.md R83): the location is written; never a page-cross bonus. -/
def storeClass (o : Operand) (base : Nat) (v : Byte) (s : State) : Result :=
  .next (writeOperand (resolve o s).loc v (s.completed o.length base))

/-- Read-modify-write class, and the accumulator forms (20_memory.md R47, R58, 40_engine.md R83): `r` and the flags were
computed from the operand byte; `r` is written back to the same location; never a page-cross bonus. -/
def modifyClass (o : Operand) (base : Nat) (r : Byte) (f : Flags) (s : State) : Result :=
  .next (writeOperand (resolve o s).loc r ((s.completed o.length base).setFlags f))

/-- An Implied register or flag instruction: one byte, 2 cycles (40_engine.md R82, R98). -/
def implied (f : State → State) (s : State) : Result := .next (f (s.completed 1 2))

end Sys2Proof.Machine
end

