-- ==== Sys2Proof/Machine/Arithmetic.lean ====
section
/-!
DEFINITION. Arithmetic, compare, increment and decrement (41_arithmetic.md R109 to R119). One meaning for each
row of the opcode table (30_encoding.md R61), each over the shared operations; base cycles are the row's own.
-/
namespace Sys2Proof.Machine

/-- ADC on a mode (41_arithmetic.md R109). -/
def adc (o : Operand) (base : Nat) (s : State) : Result :=
  if s.flags.d = true ∧ s.cfg.decimal = .refuse then .refused .decimalMode
  else readClass o base (fun m t =>
    let q := aluAdd t.a m t.flags.c
    (t.setA q.r).setFlags (t.flags.setAlu q)) s

/-- SBC on a mode (41_arithmetic.md R110). -/
def sbc (o : Operand) (base : Nat) (s : State) : Result :=
  if s.flags.d = true ∧ s.cfg.decimal = .refuse then .refused .decimalMode
  else readClass o base (fun m t =>
    let q := aluSub t.a m t.flags.c
    (t.setA q.r).setFlags (t.flags.setAlu q)) s

/-- CMP, CPX and CPY on a mode: `reg` is the register compared (41_arithmetic.md R111 to R113). -/
def compareWith (reg : Byte) (o : Operand) (base : Nat) (s : State) : Result :=
  readClass o base (fun m t => t.setFlags (t.flags.compare reg m)) s

/-- INC and DEC on a mode: `f` is inc8 or dec8 (41_arithmetic.md R114, R115). -/
def step8 (f : Byte → Byte) (o : Operand) (base : Nat) (s : State) : Result :=
  let r := f (operandValue o s)
  modifyClass o base r (s.flags.setZN r) s

/-- ADC Immediate, 0x69, 2 cycles (R109). -/
@[simp] def execAdcImm (imm : Byte) (s : State) : Result := adc (.immediate imm) 2 s

/-- ADC ZeroPage, 0x65, 3 cycles (R109). -/
@[simp] def execAdcZp (zp : Byte) (s : State) : Result := adc (.zeroPage zp) 3 s

/-- ADC ZeroPage-X, 0x75, 4 cycles (R109). -/
@[simp] def execAdcZpX (zp : Byte) (s : State) : Result := adc (.zeroPageX zp) 4 s

/-- ADC Absolute, 0x6D, 4 cycles (R109). -/
@[simp] def execAdcAbs (addr : Addr) (s : State) : Result := adc (.absolute addr) 4 s

/-- ADC Absolute-X, 0x7D, 4 cycles (R109). -/
@[simp] def execAdcAbsX (addr : Addr) (s : State) : Result := adc (.absoluteX addr) 4 s

/-- ADC Absolute-Y, 0x79, 4 cycles (R109). -/
@[simp] def execAdcAbsY (addr : Addr) (s : State) : Result := adc (.absoluteY addr) 4 s

/-- ADC Indexed-Indirect (X), 0x61, 6 cycles (R109). -/
@[simp] def execAdcIndX (zp : Byte) (s : State) : Result := adc (.indexedIndirect zp) 6 s

/-- ADC Indirect-Indexed (Y), 0x71, 5 cycles (R109). -/
@[simp] def execAdcIndY (zp : Byte) (s : State) : Result := adc (.indirectIndexed zp) 5 s

/-- SBC Immediate, 0xE9, 2 cycles (R110). -/
@[simp] def execSbcImm (imm : Byte) (s : State) : Result := sbc (.immediate imm) 2 s

/-- SBC ZeroPage, 0xE5, 3 cycles (R110). -/
@[simp] def execSbcZp (zp : Byte) (s : State) : Result := sbc (.zeroPage zp) 3 s

/-- SBC ZeroPage-X, 0xF5, 4 cycles (R110). -/
@[simp] def execSbcZpX (zp : Byte) (s : State) : Result := sbc (.zeroPageX zp) 4 s

/-- SBC Absolute, 0xED, 4 cycles (R110). -/
@[simp] def execSbcAbs (addr : Addr) (s : State) : Result := sbc (.absolute addr) 4 s

/-- SBC Absolute-X, 0xFD, 4 cycles (R110). -/
@[simp] def execSbcAbsX (addr : Addr) (s : State) : Result := sbc (.absoluteX addr) 4 s

/-- SBC Absolute-Y, 0xF9, 4 cycles (R110). -/
@[simp] def execSbcAbsY (addr : Addr) (s : State) : Result := sbc (.absoluteY addr) 4 s

/-- SBC Indexed-Indirect (X), 0xE1, 6 cycles (R110). -/
@[simp] def execSbcIndX (zp : Byte) (s : State) : Result := sbc (.indexedIndirect zp) 6 s

/-- SBC Indirect-Indexed (Y), 0xF1, 5 cycles (R110). -/
@[simp] def execSbcIndY (zp : Byte) (s : State) : Result := sbc (.indirectIndexed zp) 5 s

/-- CMP Immediate, 0xC9, 2 cycles (R111). -/
@[simp] def execCmpImm (imm : Byte) (s : State) : Result := compareWith s.a (.immediate imm) 2 s

/-- CMP ZeroPage, 0xC5, 3 cycles (R111). -/
@[simp] def execCmpZp (zp : Byte) (s : State) : Result := compareWith s.a (.zeroPage zp) 3 s

/-- CMP ZeroPage-X, 0xD5, 4 cycles (R111). -/
@[simp] def execCmpZpX (zp : Byte) (s : State) : Result := compareWith s.a (.zeroPageX zp) 4 s

/-- CMP Absolute, 0xCD, 4 cycles (R111). -/
@[simp] def execCmpAbs (addr : Addr) (s : State) : Result := compareWith s.a (.absolute addr) 4 s

/-- CMP Absolute-X, 0xDD, 4 cycles (R111). -/
@[simp] def execCmpAbsX (addr : Addr) (s : State) : Result := compareWith s.a (.absoluteX addr) 4 s

/-- CMP Absolute-Y, 0xD9, 4 cycles (R111). -/
@[simp] def execCmpAbsY (addr : Addr) (s : State) : Result := compareWith s.a (.absoluteY addr) 4 s

/-- CMP Indexed-Indirect (X), 0xC1, 6 cycles (R111). -/
@[simp] def execCmpIndX (zp : Byte) (s : State) : Result := compareWith s.a (.indexedIndirect zp) 6 s

/-- CMP Indirect-Indexed (Y), 0xD1, 5 cycles (R111). -/
@[simp] def execCmpIndY (zp : Byte) (s : State) : Result := compareWith s.a (.indirectIndexed zp) 5 s

/-- CPX Immediate, 0xE0, 2 cycles (R112). -/
@[simp] def execCpxImm (imm : Byte) (s : State) : Result := compareWith s.x (.immediate imm) 2 s

/-- CPX ZeroPage, 0xE4, 3 cycles (R112). -/
@[simp] def execCpxZp (zp : Byte) (s : State) : Result := compareWith s.x (.zeroPage zp) 3 s

/-- CPX Absolute, 0xEC, 4 cycles (R112). -/
@[simp] def execCpxAbs (addr : Addr) (s : State) : Result := compareWith s.x (.absolute addr) 4 s

/-- CPY Immediate, 0xC0, 2 cycles (R113). -/
@[simp] def execCpyImm (imm : Byte) (s : State) : Result := compareWith s.y (.immediate imm) 2 s

/-- CPY ZeroPage, 0xC4, 3 cycles (R113). -/
@[simp] def execCpyZp (zp : Byte) (s : State) : Result := compareWith s.y (.zeroPage zp) 3 s

/-- CPY Absolute, 0xCC, 4 cycles (R113). -/
@[simp] def execCpyAbs (addr : Addr) (s : State) : Result := compareWith s.y (.absolute addr) 4 s

/-- INC ZeroPage, 0xE6, 5 cycles (R114). -/
@[simp] def execIncZp (zp : Byte) (s : State) : Result := step8 inc8 (.zeroPage zp) 5 s

/-- INC ZeroPage-X, 0xF6, 6 cycles (R114). -/
@[simp] def execIncZpX (zp : Byte) (s : State) : Result := step8 inc8 (.zeroPageX zp) 6 s

/-- INC Absolute, 0xEE, 6 cycles (R114). -/
@[simp] def execIncAbs (addr : Addr) (s : State) : Result := step8 inc8 (.absolute addr) 6 s

/-- INC Absolute-X, 0xFE, 7 cycles (R114). -/
@[simp] def execIncAbsX (addr : Addr) (s : State) : Result := step8 inc8 (.absoluteX addr) 7 s

/-- DEC ZeroPage, 0xC6, 5 cycles (R115). -/
@[simp] def execDecZp (zp : Byte) (s : State) : Result := step8 dec8 (.zeroPage zp) 5 s

/-- DEC ZeroPage-X, 0xD6, 6 cycles (R115). -/
@[simp] def execDecZpX (zp : Byte) (s : State) : Result := step8 dec8 (.zeroPageX zp) 6 s

/-- DEC Absolute, 0xCE, 6 cycles (R115). -/
@[simp] def execDecAbs (addr : Addr) (s : State) : Result := step8 dec8 (.absolute addr) 6 s

/-- DEC Absolute-X, 0xDE, 7 cycles (R115). -/
@[simp] def execDecAbsX (addr : Addr) (s : State) : Result := step8 dec8 (.absoluteX addr) 7 s

/-- INX Implied, 0xE8, 2 cycles (R116). -/
@[simp] def execInx (s : State) : Result := implied (fun t => (t.setX (inc8 t.x)).setZN (inc8 t.x)) s

/-- INY Implied, 0xC8, 2 cycles (R117). -/
@[simp] def execIny (s : State) : Result := implied (fun t => (t.setY (inc8 t.y)).setZN (inc8 t.y)) s

/-- DEX Implied, 0xCA, 2 cycles (R118). -/
@[simp] def execDex (s : State) : Result := implied (fun t => (t.setX (dec8 t.x)).setZN (dec8 t.x)) s

/-- DEY Implied, 0x88, 2 cycles (R119). -/
@[simp] def execDey (s : State) : Result := implied (fun t => (t.setY (dec8 t.y)).setZN (dec8 t.y)) s

end Sys2Proof.Machine
end

