-- ==== Sys2Proof/Machine/Control.lean ====
section
/-!
DEFINITION. Branches, jumps, subroutine call and return (45_control.md R141 to R152). One meaning for each
row of the opcode table (30_encoding.md R61), each over the shared operations; base cycles are the row's own.
-/
namespace Sys2Proof.Machine

/-- The common rule of the eight branches (45_control.md R141, 40_engine.md R84): 2 cycles not taken; taken, 1 more, and
1 more again when the target lies in another page than the next instruction. -/
def branch (cond : Bool) (rel : Byte) (s : State) : Result :=
  let next := s.pc + 2
  let target := branchTarget rel next
  if cond then .next ((s.completed 2 (2 + (1 + bit (pageCross next target)))).setPc target)
  else .next (s.completed 2 2)

/-- BCC Relative, 0x90, 2 cycles (R142). -/
@[simp] def execBcc (rel : Byte) (s : State) : Result := branch (!s.flags.c) rel s

/-- BCS Relative, 0xB0, 2 cycles (R143). -/
@[simp] def execBcs (rel : Byte) (s : State) : Result := branch s.flags.c rel s

/-- BEQ Relative, 0xF0, 2 cycles (R144). -/
@[simp] def execBeq (rel : Byte) (s : State) : Result := branch s.flags.z rel s

/-- BMI Relative, 0x30, 2 cycles (R145). -/
@[simp] def execBmi (rel : Byte) (s : State) : Result := branch s.flags.n rel s

/-- BNE Relative, 0xD0, 2 cycles (R146). -/
@[simp] def execBne (rel : Byte) (s : State) : Result := branch (!s.flags.z) rel s

/-- BPL Relative, 0x10, 2 cycles (R147). -/
@[simp] def execBpl (rel : Byte) (s : State) : Result := branch (!s.flags.n) rel s

/-- BVC Relative, 0x50, 2 cycles (R148). -/
@[simp] def execBvc (rel : Byte) (s : State) : Result := branch (!s.flags.v) rel s

/-- BVS Relative, 0x70, 2 cycles (R149). -/
@[simp] def execBvs (rel : Byte) (s : State) : Result := branch s.flags.v rel s

/-- JMP Absolute, 0x4C, 3 cycles (R150). -/
@[simp] def execJmpAbs (addr : Addr) (s : State) : Result := .next ((s.completed 3 3).setPc addr)

/-- JMP Indirect, 0x6C, 5 cycles (R150). -/
@[simp] def execJmpInd (ptr : Addr) (s : State) : Result := .next ((s.completed 3 5).setPc (s.read16bug ptr))

/-- JSR Absolute, 0x20, 6 cycles (R151): both target bytes fetched, then the address of its last byte pushed (92_eei_decisions.md D19). -/
@[simp] def execJsr (addr : Addr) (s : State) : Result := .next (((s.completed 3 6).push16 (s.pc + 2)).setPc addr)

/-- RTS Implied, 0x60, 6 cycles (R152): low byte first, plus 1. -/
@[simp] def execRts (s : State) : Result :=
  let run := s.completed 1 6
  .next (run.afterPull16.setPc (run.pulled16 + 1))

end Sys2Proof.Machine
end

