-- ==== Sys2Proof/Machine/LoadStore.lean ====
section
/-!
DEFINITION. Loads, stores and register transfers (43_load_store_transfer.md R125 to R136). One meaning for each
row of the opcode table (30_encoding.md R61), each over the shared operations; base cycles are the row's own.
-/
namespace Sys2Proof.Machine

/-- LDA on a mode (43_load_store_transfer.md R125). -/
def lda (o : Operand) (base : Nat) (s : State) : Result := readClass o base (fun m t => (t.setA m).setZN m) s

/-- LDX on a mode (43_load_store_transfer.md R126). -/
def ldx (o : Operand) (base : Nat) (s : State) : Result := readClass o base (fun m t => (t.setX m).setZN m) s

/-- LDY on a mode (43_load_store_transfer.md R127). -/
def ldy (o : Operand) (base : Nat) (s : State) : Result := readClass o base (fun m t => (t.setY m).setZN m) s

/-- LDA Immediate, 0xA9, 2 cycles (R125). -/
@[simp] def execLdaImm (imm : Byte) (s : State) : Result := lda (.immediate imm) 2 s

/-- LDA ZeroPage, 0xA5, 3 cycles (R125). -/
@[simp] def execLdaZp (zp : Byte) (s : State) : Result := lda (.zeroPage zp) 3 s

/-- LDA ZeroPage-X, 0xB5, 4 cycles (R125). -/
@[simp] def execLdaZpX (zp : Byte) (s : State) : Result := lda (.zeroPageX zp) 4 s

/-- LDA Absolute, 0xAD, 4 cycles (R125). -/
@[simp] def execLdaAbs (addr : Addr) (s : State) : Result := lda (.absolute addr) 4 s

/-- LDA Absolute-X, 0xBD, 4 cycles (R125). -/
@[simp] def execLdaAbsX (addr : Addr) (s : State) : Result := lda (.absoluteX addr) 4 s

/-- LDA Absolute-Y, 0xB9, 4 cycles (R125). -/
@[simp] def execLdaAbsY (addr : Addr) (s : State) : Result := lda (.absoluteY addr) 4 s

/-- LDA Indexed-Indirect (X), 0xA1, 6 cycles (R125). -/
@[simp] def execLdaIndX (zp : Byte) (s : State) : Result := lda (.indexedIndirect zp) 6 s

/-- LDA Indirect-Indexed (Y), 0xB1, 5 cycles (R125). -/
@[simp] def execLdaIndY (zp : Byte) (s : State) : Result := lda (.indirectIndexed zp) 5 s

/-- LDX Immediate, 0xA2, 2 cycles (R126). -/
@[simp] def execLdxImm (imm : Byte) (s : State) : Result := ldx (.immediate imm) 2 s

/-- LDX ZeroPage, 0xA6, 3 cycles (R126). -/
@[simp] def execLdxZp (zp : Byte) (s : State) : Result := ldx (.zeroPage zp) 3 s

/-- LDX ZeroPage-Y, 0xB6, 4 cycles (R126). -/
@[simp] def execLdxZpY (zp : Byte) (s : State) : Result := ldx (.zeroPageY zp) 4 s

/-- LDX Absolute, 0xAE, 4 cycles (R126). -/
@[simp] def execLdxAbs (addr : Addr) (s : State) : Result := ldx (.absolute addr) 4 s

/-- LDX Absolute-Y, 0xBE, 4 cycles (R126). -/
@[simp] def execLdxAbsY (addr : Addr) (s : State) : Result := ldx (.absoluteY addr) 4 s

/-- LDY Immediate, 0xA0, 2 cycles (R127). -/
@[simp] def execLdyImm (imm : Byte) (s : State) : Result := ldy (.immediate imm) 2 s

/-- LDY ZeroPage, 0xA4, 3 cycles (R127). -/
@[simp] def execLdyZp (zp : Byte) (s : State) : Result := ldy (.zeroPage zp) 3 s

/-- LDY ZeroPage-X, 0xB4, 4 cycles (R127). -/
@[simp] def execLdyZpX (zp : Byte) (s : State) : Result := ldy (.zeroPageX zp) 4 s

/-- LDY Absolute, 0xAC, 4 cycles (R127). -/
@[simp] def execLdyAbs (addr : Addr) (s : State) : Result := ldy (.absolute addr) 4 s

/-- LDY Absolute-X, 0xBC, 4 cycles (R127). -/
@[simp] def execLdyAbsX (addr : Addr) (s : State) : Result := ldy (.absoluteX addr) 4 s

/-- STA ZeroPage, 0x85, 3 cycles (R128). -/
@[simp] def execStaZp (zp : Byte) (s : State) : Result := storeClass (.zeroPage zp) 3 s.a s

/-- STA ZeroPage-X, 0x95, 4 cycles (R128). -/
@[simp] def execStaZpX (zp : Byte) (s : State) : Result := storeClass (.zeroPageX zp) 4 s.a s

/-- STA Absolute, 0x8D, 4 cycles (R128). -/
@[simp] def execStaAbs (addr : Addr) (s : State) : Result := storeClass (.absolute addr) 4 s.a s

/-- STA Absolute-X, 0x9D, 5 cycles (R128). -/
@[simp] def execStaAbsX (addr : Addr) (s : State) : Result := storeClass (.absoluteX addr) 5 s.a s

/-- STA Absolute-Y, 0x99, 5 cycles (R128). -/
@[simp] def execStaAbsY (addr : Addr) (s : State) : Result := storeClass (.absoluteY addr) 5 s.a s

/-- STA Indexed-Indirect (X), 0x81, 6 cycles (R128). -/
@[simp] def execStaIndX (zp : Byte) (s : State) : Result := storeClass (.indexedIndirect zp) 6 s.a s

/-- STA Indirect-Indexed (Y), 0x91, 6 cycles (R128). -/
@[simp] def execStaIndY (zp : Byte) (s : State) : Result := storeClass (.indirectIndexed zp) 6 s.a s

/-- STX ZeroPage, 0x86, 3 cycles (R129). -/
@[simp] def execStxZp (zp : Byte) (s : State) : Result := storeClass (.zeroPage zp) 3 s.x s

/-- STX ZeroPage-Y, 0x96, 4 cycles (R129). -/
@[simp] def execStxZpY (zp : Byte) (s : State) : Result := storeClass (.zeroPageY zp) 4 s.x s

/-- STX Absolute, 0x8E, 4 cycles (R129). -/
@[simp] def execStxAbs (addr : Addr) (s : State) : Result := storeClass (.absolute addr) 4 s.x s

/-- STY ZeroPage, 0x84, 3 cycles (R130). -/
@[simp] def execStyZp (zp : Byte) (s : State) : Result := storeClass (.zeroPage zp) 3 s.y s

/-- STY ZeroPage-X, 0x94, 4 cycles (R130). -/
@[simp] def execStyZpX (zp : Byte) (s : State) : Result := storeClass (.zeroPageX zp) 4 s.y s

/-- STY Absolute, 0x8C, 4 cycles (R130). -/
@[simp] def execStyAbs (addr : Addr) (s : State) : Result := storeClass (.absolute addr) 4 s.y s

/-- TAX Implied, 0xAA, 2 cycles (R131). -/
@[simp] def execTax (s : State) : Result := implied (fun t => (t.setX t.a).setZN t.a) s

/-- TAY Implied, 0xA8, 2 cycles (R132). -/
@[simp] def execTay (s : State) : Result := implied (fun t => (t.setY t.a).setZN t.a) s

/-- TXA Implied, 0x8A, 2 cycles (R133). -/
@[simp] def execTxa (s : State) : Result := implied (fun t => (t.setA t.x).setZN t.x) s

/-- TYA Implied, 0x98, 2 cycles (R134). -/
@[simp] def execTya (s : State) : Result := implied (fun t => (t.setA t.y).setZN t.y) s

/-- TSX Implied, 0xBA, 2 cycles (R135). -/
@[simp] def execTsx (s : State) : Result := implied (fun t => (t.setX t.sp).setZN t.sp) s

/-- TXS Implied, 0x9A, 2 cycles (R136): no flag. -/
@[simp] def execTxs (s : State) : Result := implied (fun t => t.setSp t.x) s

end Sys2Proof.Machine
end

