-- ==== Sys2Proof/Machine/Logic.lean ====
section
/-!
DEFINITION. Logic and bit test (42_logic.md R121 to R124). One meaning for each
row of the opcode table (30_encoding.md R61), each over the shared operations; base cycles are the row's own.
-/
namespace Sys2Proof.Machine

/-- AND, EOR and ORA on a mode: `f` combines A with the operand byte (40_engine.md R106, 42_logic.md R121 to R123). -/
def combine (f : Byte → Byte → Byte) (o : Operand) (base : Nat) (s : State) : Result :=
  readClass o base (fun m t => (t.setA (f t.a m)).setZN (f t.a m)) s

/-- BIT on a mode (42_logic.md R124). -/
def bitTest (o : Operand) (base : Nat) (s : State) : Result :=
  readClass o base (fun m t => t.setFlags (t.flags.bitTest t.a m)) s

/-- AND Immediate, 0x29, 2 cycles (R121). -/
@[simp] def execAndImm (imm : Byte) (s : State) : Result := combine (fun a m => a &&& m) (.immediate imm) 2 s

/-- AND ZeroPage, 0x25, 3 cycles (R121). -/
@[simp] def execAndZp (zp : Byte) (s : State) : Result := combine (fun a m => a &&& m) (.zeroPage zp) 3 s

/-- AND ZeroPage-X, 0x35, 4 cycles (R121). -/
@[simp] def execAndZpX (zp : Byte) (s : State) : Result := combine (fun a m => a &&& m) (.zeroPageX zp) 4 s

/-- AND Absolute, 0x2D, 4 cycles (R121). -/
@[simp] def execAndAbs (addr : Addr) (s : State) : Result := combine (fun a m => a &&& m) (.absolute addr) 4 s

/-- AND Absolute-X, 0x3D, 4 cycles (R121). -/
@[simp] def execAndAbsX (addr : Addr) (s : State) : Result := combine (fun a m => a &&& m) (.absoluteX addr) 4 s

/-- AND Absolute-Y, 0x39, 4 cycles (R121). -/
@[simp] def execAndAbsY (addr : Addr) (s : State) : Result := combine (fun a m => a &&& m) (.absoluteY addr) 4 s

/-- AND Indexed-Indirect (X), 0x21, 6 cycles (R121). -/
@[simp] def execAndIndX (zp : Byte) (s : State) : Result := combine (fun a m => a &&& m) (.indexedIndirect zp) 6 s

/-- AND Indirect-Indexed (Y), 0x31, 5 cycles (R121). -/
@[simp] def execAndIndY (zp : Byte) (s : State) : Result := combine (fun a m => a &&& m) (.indirectIndexed zp) 5 s

/-- EOR Immediate, 0x49, 2 cycles (R122). -/
@[simp] def execEorImm (imm : Byte) (s : State) : Result := combine (fun a m => a ^^^ m) (.immediate imm) 2 s

/-- EOR ZeroPage, 0x45, 3 cycles (R122). -/
@[simp] def execEorZp (zp : Byte) (s : State) : Result := combine (fun a m => a ^^^ m) (.zeroPage zp) 3 s

/-- EOR ZeroPage-X, 0x55, 4 cycles (R122). -/
@[simp] def execEorZpX (zp : Byte) (s : State) : Result := combine (fun a m => a ^^^ m) (.zeroPageX zp) 4 s

/-- EOR Absolute, 0x4D, 4 cycles (R122). -/
@[simp] def execEorAbs (addr : Addr) (s : State) : Result := combine (fun a m => a ^^^ m) (.absolute addr) 4 s

/-- EOR Absolute-X, 0x5D, 4 cycles (R122). -/
@[simp] def execEorAbsX (addr : Addr) (s : State) : Result := combine (fun a m => a ^^^ m) (.absoluteX addr) 4 s

/-- EOR Absolute-Y, 0x59, 4 cycles (R122). -/
@[simp] def execEorAbsY (addr : Addr) (s : State) : Result := combine (fun a m => a ^^^ m) (.absoluteY addr) 4 s

/-- EOR Indexed-Indirect (X), 0x41, 6 cycles (R122). -/
@[simp] def execEorIndX (zp : Byte) (s : State) : Result := combine (fun a m => a ^^^ m) (.indexedIndirect zp) 6 s

/-- EOR Indirect-Indexed (Y), 0x51, 5 cycles (R122). -/
@[simp] def execEorIndY (zp : Byte) (s : State) : Result := combine (fun a m => a ^^^ m) (.indirectIndexed zp) 5 s

/-- ORA Immediate, 0x09, 2 cycles (R123). -/
@[simp] def execOraImm (imm : Byte) (s : State) : Result := combine (fun a m => a ||| m) (.immediate imm) 2 s

/-- ORA ZeroPage, 0x05, 3 cycles (R123). -/
@[simp] def execOraZp (zp : Byte) (s : State) : Result := combine (fun a m => a ||| m) (.zeroPage zp) 3 s

/-- ORA ZeroPage-X, 0x15, 4 cycles (R123). -/
@[simp] def execOraZpX (zp : Byte) (s : State) : Result := combine (fun a m => a ||| m) (.zeroPageX zp) 4 s

/-- ORA Absolute, 0x0D, 4 cycles (R123). -/
@[simp] def execOraAbs (addr : Addr) (s : State) : Result := combine (fun a m => a ||| m) (.absolute addr) 4 s

/-- ORA Absolute-X, 0x1D, 4 cycles (R123). -/
@[simp] def execOraAbsX (addr : Addr) (s : State) : Result := combine (fun a m => a ||| m) (.absoluteX addr) 4 s

/-- ORA Absolute-Y, 0x19, 4 cycles (R123). -/
@[simp] def execOraAbsY (addr : Addr) (s : State) : Result := combine (fun a m => a ||| m) (.absoluteY addr) 4 s

/-- ORA Indexed-Indirect (X), 0x01, 6 cycles (R123). -/
@[simp] def execOraIndX (zp : Byte) (s : State) : Result := combine (fun a m => a ||| m) (.indexedIndirect zp) 6 s

/-- ORA Indirect-Indexed (Y), 0x11, 5 cycles (R123). -/
@[simp] def execOraIndY (zp : Byte) (s : State) : Result := combine (fun a m => a ||| m) (.indirectIndexed zp) 5 s

/-- BIT ZeroPage, 0x24, 3 cycles (R124). -/
@[simp] def execBitZp (zp : Byte) (s : State) : Result := bitTest (.zeroPage zp) 3 s

/-- BIT Absolute, 0x2C, 4 cycles (R124). -/
@[simp] def execBitAbs (addr : Addr) (s : State) : Result := bitTest (.absolute addr) 4 s

end Sys2Proof.Machine
end

