-- ==== Sys2Proof/Machine/Shift.lean ====
section
/-!
DEFINITION. Shifts and rotates (44_shift_rotate.md R137 to R140). One meaning for each
row of the opcode table (30_encoding.md R61), each over the shared operations; base cycles are the row's own.
-/
namespace Sys2Proof.Machine

/-- ASL, LSR, ROL and ROR on a mode: `f` takes the operand byte and the old carry, which ASL and LSR ignore
(40_engine.md R105, 44_shift_rotate.md R137 to R140). -/
def shift (f : Byte → Bool → ShiftOut) (o : Operand) (base : Nat) (s : State) : Result :=
  let q := f (operandValue o s) s.flags.c
  modifyClass o base q.r (s.flags.setShift q) s

/-- ASL Accumulator, 0x0A, 2 cycles (R137). -/
@[simp] def execAslAcc (s : State) : Result := shift (fun v _ => asl v) .accumulator 2 s

/-- ASL ZeroPage, 0x06, 5 cycles (R137). -/
@[simp] def execAslZp (zp : Byte) (s : State) : Result := shift (fun v _ => asl v) (.zeroPage zp) 5 s

/-- ASL ZeroPage-X, 0x16, 6 cycles (R137). -/
@[simp] def execAslZpX (zp : Byte) (s : State) : Result := shift (fun v _ => asl v) (.zeroPageX zp) 6 s

/-- ASL Absolute, 0x0E, 6 cycles (R137). -/
@[simp] def execAslAbs (addr : Addr) (s : State) : Result := shift (fun v _ => asl v) (.absolute addr) 6 s

/-- ASL Absolute-X, 0x1E, 7 cycles (R137). -/
@[simp] def execAslAbsX (addr : Addr) (s : State) : Result := shift (fun v _ => asl v) (.absoluteX addr) 7 s

/-- LSR Accumulator, 0x4A, 2 cycles (R138). -/
@[simp] def execLsrAcc (s : State) : Result := shift (fun v _ => lsr v) .accumulator 2 s

/-- LSR ZeroPage, 0x46, 5 cycles (R138). -/
@[simp] def execLsrZp (zp : Byte) (s : State) : Result := shift (fun v _ => lsr v) (.zeroPage zp) 5 s

/-- LSR ZeroPage-X, 0x56, 6 cycles (R138). -/
@[simp] def execLsrZpX (zp : Byte) (s : State) : Result := shift (fun v _ => lsr v) (.zeroPageX zp) 6 s

/-- LSR Absolute, 0x4E, 6 cycles (R138). -/
@[simp] def execLsrAbs (addr : Addr) (s : State) : Result := shift (fun v _ => lsr v) (.absolute addr) 6 s

/-- LSR Absolute-X, 0x5E, 7 cycles (R138). -/
@[simp] def execLsrAbsX (addr : Addr) (s : State) : Result := shift (fun v _ => lsr v) (.absoluteX addr) 7 s

/-- ROL Accumulator, 0x2A, 2 cycles (R139). -/
@[simp] def execRolAcc (s : State) : Result := shift rol .accumulator 2 s

/-- ROL ZeroPage, 0x26, 5 cycles (R139). -/
@[simp] def execRolZp (zp : Byte) (s : State) : Result := shift rol (.zeroPage zp) 5 s

/-- ROL ZeroPage-X, 0x36, 6 cycles (R139). -/
@[simp] def execRolZpX (zp : Byte) (s : State) : Result := shift rol (.zeroPageX zp) 6 s

/-- ROL Absolute, 0x2E, 6 cycles (R139). -/
@[simp] def execRolAbs (addr : Addr) (s : State) : Result := shift rol (.absolute addr) 6 s

/-- ROL Absolute-X, 0x3E, 7 cycles (R139). -/
@[simp] def execRolAbsX (addr : Addr) (s : State) : Result := shift rol (.absoluteX addr) 7 s

/-- ROR Accumulator, 0x6A, 2 cycles (R140). -/
@[simp] def execRorAcc (s : State) : Result := shift ror .accumulator 2 s

/-- ROR ZeroPage, 0x66, 5 cycles (R140). -/
@[simp] def execRorZp (zp : Byte) (s : State) : Result := shift ror (.zeroPage zp) 5 s

/-- ROR ZeroPage-X, 0x76, 6 cycles (R140). -/
@[simp] def execRorZpX (zp : Byte) (s : State) : Result := shift ror (.zeroPageX zp) 6 s

/-- ROR Absolute, 0x6E, 6 cycles (R140). -/
@[simp] def execRorAbs (addr : Addr) (s : State) : Result := shift ror (.absolute addr) 6 s

/-- ROR Absolute-X, 0x7E, 7 cycles (R140). -/
@[simp] def execRorAbsX (addr : Addr) (s : State) : Result := shift ror (.absoluteX addr) 7 s

end Sys2Proof.Machine
end

