-- ==== Sys2Proof/Machine/System.lean ====
section
/-!
DEFINITION. Stack, software interrupt, flag instructions, NOP, halt and unknown opcodes (46_stack_system.md R155 to R170). One meaning for each
row of the opcode table (30_encoding.md R61), each over the shared operations; base cycles are the row's own.
-/
namespace Sys2Proof.Machine

/-- A flag instruction: sets or clears one flag (46_stack_system.md R161 to R167). -/
def flagOp (f : Flags → Flags) (s : State) : Result := implied (fun t => t.setFlags (f t.flags)) s

/-- PHA Implied, 0x48, 3 cycles (R155). -/
@[simp] def execPha (s : State) : Result := .next ((s.completed 1 3).push s.a)

/-- PHP Implied, 0x08, 3 cycles (R156). -/
@[simp] def execPhp (s : State) : Result := .next ((s.completed 1 3).push (encodeStatus s.flags))

/-- PLA Implied, 0x68, 4 cycles (R157): sets Z and N (92_eei_decisions.md D12). -/
@[simp] def execPla (s : State) : Result :=
  let run := s.completed 1 4
  .next ((run.afterPull.setA run.pulled).setZN run.pulled)

/-- PLP Implied, 0x28, 4 cycles (R158): bit 5 ignored. -/
@[simp] def execPlp (s : State) : Result :=
  let run := s.completed 1 4
  .next (run.afterPull.setFlags (decodeStatus run.pulled))

/-- BRK Implied, 0x00, 7 cycles (R159): the trap. -/
@[simp] def execBrk (s : State) : Result := .next s.takeBreak

/-- RTI Implied, 0x40, 6 cycles (R160): the return from the trap. -/
@[simp] def execRti (s : State) : Result := .next s.returnFromBreak

/-- CLC Implied, 0x18, 2 cycles (R161). -/
@[simp] def execClc (s : State) : Result := flagOp (fun f => { f with c := false }) s

/-- CLD Implied, 0xD8, 2 cycles (R162). -/
@[simp] def execCld (s : State) : Result := flagOp (fun f => { f with d := false }) s

/-- CLI Implied, 0x58, 2 cycles (R163). -/
@[simp] def execCli (s : State) : Result := flagOp (fun f => { f with i := false }) s

/-- CLV Implied, 0xB8, 2 cycles (R164). -/
@[simp] def execClv (s : State) : Result := flagOp (fun f => { f with v := false }) s

/-- SEC Implied, 0x38, 2 cycles (R165). -/
@[simp] def execSec (s : State) : Result := flagOp (fun f => { f with c := true }) s

/-- SED Implied, 0xF8, 2 cycles (R166). -/
@[simp] def execSed (s : State) : Result := flagOp (fun f => { f with d := true }) s

/-- SEI Implied, 0x78, 2 cycles (R167). -/
@[simp] def execSei (s : State) : Result := flagOp (fun f => { f with i := true }) s

/-- NOP Implied, 0xEA, 2 cycles (R168). -/
@[simp] def execNop (s : State) : Result := implied id s

/-- HLT, the byte HALT_OPCODE: the fetch and its one cycle, then the Step returns Halt (R169). -/
@[simp] def execHlt (s : State) : Result := .next (s.completed 1 1).halting

/-- An unknown opcode: under UNKNOWN_OPCODE_POLICY = continue, the fetch and its one cycle and the UNKNOWN_OPCODE event
with CYC after the fetch (92_eei_decisions.md D16); under fault, the model-side fault (R170). -/
def execUnknown (op : Byte) (s : State) : Result :=
  match s.cfg.unknown with
  | .fault => .fault (.unknownOpcode op)
  | .proceed =>
    let run := s.completed 1 1
    .next (run.raiseDiag (.unknownOpcode run.cyc op))

end Sys2Proof.Machine
end

