-- ==== Sys2Proof/Machine/Step.lean ====
section
/-!
DEFINITION. One step: the `Step()` of 40_engine.md R76, one whole instruction. The opcode byte at PC and the two bytes
after it are read (an instruction shorter than three bytes ignores the rest; reading has no side effect, 20_memory.md
R39, R49), decoded, and the instruction's meaning runs on the state as it stands: the meaning itself moves PC past the
instruction's bytes and adds its whole cost (R78, R85).
-/
namespace Sys2Proof.Machine

/-- The instruction at PC. -/
def State.nextInstr (s : State) : Instr :=
  decode s.cfg.haltOpcode (s.readByte s.pc) (s.readByte (s.pc + 1)) (s.readByte (s.pc + 2))

/-- `Step()` (40_engine.md R76). -/
def step (s : State) : Host.Outcome State Fault Refusal := exec s.nextInstr s

/-- The state with an instruction, given as spec/opcode_table.json numbers its bits, stored at PC. -/
def State.withFetchWord (s : State) (nbits w : Nat) : State :=
  ((s.writeByte s.pc (tableByte nbits w 0)).writeByte (s.pc + 1) (tableByte nbits w 1)).writeByte (s.pc + 2)
    (tableByte nbits w 2)

end Sys2Proof.Machine
end

