-- ==== Sys2Proof/Machine/Execute.lean ====
section
/-!
DEFINITION. The host's transactions (00_scope.md R7, 70_reset_and_hazards.md R189): Construct, Reset, Execute(N),
HostWrite, the image load, HostClear and inspection. Each is atomic and happens only between Execute calls. `step` is
one instruction; `execute` is the loop of 40_engine.md R75 over it.
-/
namespace Sys2Proof.Machine

/-- Construct (70_reset_and_hazards.md R185, 20_memory.md R42): every byte MEM_INIT; the registers, flags and CYC are
free values until the first Reset (10_state.md R34, 92_eei_decisions.md D20). -/
def construct (p : Params) : State where
  a := Config.powerUpByte 0
  x := Config.powerUpByte 1
  y := Config.powerUpByte 2
  sp := Config.powerUpByte 3
  pc := Config.powerUpPc
  flags :=
    { n := Config.powerUpFlag 0, v := Config.powerUpFlag 1, b := Config.powerUpFlag 2, d := Config.powerUpFlag 3,
      i := Config.powerUpFlag 4, z := Config.powerUpFlag 5, c := Config.powerUpFlag 6 }
  cyc := Config.powerUpCyc
  mem := []
  remaining := none
  outcome := .cont
  diags := []
  cfg := p

/-- All seven flags 0 (10_state.md R33). -/
def clearFlags : Flags :=
  { n := false, v := false, b := false, d := false, i := false, z := false, c := false }

/-- Reset (70_reset_and_hazards.md R183, R184): PC from the vector; A, X, Y, the flags and CYC zero; SP 0xFF; memory
untouched. No Execute call runs after it (10_state.md R33); the event history stays. -/
def hostReset (s : State) : State :=
  { s with
    pc := s.read16 resetVector
    a := 0
    x := 0
    y := 0
    flags := clearFlags
    sp := 0xFF
    cyc := 0
    remaining := none
    outcome := .cont }

/-- HostWrite(a, v) (20_memory.md R57). -/
def hostWrite (a : Addr) (v : Byte) (s : State) : State := s.writeByte a v

/-- The external loader's image copy to `base`, `base + 1`, ...: bytes past 0xFFFF are dropped, not wrapped
(20_memory.md R57). It does not set the reset vector. -/
def loadImage (base : Nat) : List Byte → State → State
  | [], s => s
  | v :: rest, s => if base < 65536 then loadImage (base + 1) rest (hostWrite (BitVec.ofNat 16 base) v s) else s

/-- HostClear: every byte MEM_INIT, registers untouched (20_memory.md R43, 70_reset_and_hazards.md R189). -/
def hostClear (s : State) : State := { s with mem := [] }

/-- HostRead(a) (20_memory.md R57). The registers, flags, PC and CYC are inspected by reading the fields of the state. -/
def hostRead (a : Addr) (s : State) : Byte := s.readByte a

/-- Inspection of the packed status byte (70_reset_and_hazards.md R188). -/
def inspectStatus (s : State) : Byte := encodeStatus s.flags

/-- Inspection of the inclusive byte range `first` to `last`; a reversed range is refused (70_reset_and_hazards.md R188,
92_eei_decisions.md D30). -/
def inspectRange (first last : Addr) (s : State) : Except Refusal (List Byte) :=
  if last < first then .error (.reversedRange first last)
  else .ok ((List.range (last.toNat - first.toNat + 1)).map fun k => s.readByte (first + BitVec.ofNat 16 k))

/-- The loop of 40_engine.md R75: run whole instructions while the remaining budget is positive. A Step charges the
budget with what CYC gains, at least 1, or forces it to 0, so a budget of N runs at most N instructions; `fuel` counts
them. -/
def executeLoop : Nat → State → Result
  | 0, s => .next s
  | fuel + 1, s =>
    if s.loopStatus = some .running then
      match step s with
      | .next t => executeLoop fuel t
      | .fault r => .fault r
      | .refused r => .refused r
    else .next s

/-- The budget of an Execute call starts at N. -/
def State.withBudget (s : State) (n : Int) : State := { s with remaining := some n }

/-- An Execute call returns: its budget is dropped (92_eei_decisions.md D15). -/
def State.callEnded (s : State) : State := { s with remaining := none }

/-- Execute(N) (40_engine.md R75, 70_reset_and_hazards.md R190). -/
def execute (n : Int) (s : State) : Result :=
  match executeLoop n.toNat (s.withBudget n) with
  | .next t => .next t.callEnded
  | .fault r => .fault r
  | .refused r => .refused r

end Sys2Proof.Machine
end

