-- ==== Sys2Proof/Safety.lean ====
section
/-!
DEFINITION. The terms the claims use: the invariant every step keeps, what a step accounts for beside its effect, the
bytes an instruction stores to, and which instructions may write which register or flag (10_state.md R15 to R21, R36).
-/
namespace Sys2Proof.Machine

/-- The invariant of the core: memory is in its canonical form (20_memory.md R38), and HALT_OPCODE is an undocumented
byte or NONE (00_scope.md R6). -/
def State.Inv (s : State) : Prop := Memory.wf s.cfg.memInit s.mem = true ∧ s.cfg.wf = true

/-- From `s` to `t` a Step took `cost` cycles, charged the budget with them, returned Continue and emitted no event
(40_engine.md R75, R76, R80); the parameters stand. -/
def Accounted (s t : State) (cost : Nat) : Prop :=
  t.cyc = s.cyc + cost ∧ t.remaining = s.remaining.map (fun r => r - (cost : Int)) ∧ t.outcome = .cont ∧
    t.diags = s.diags ∧ t.cfg = s.cfg

/-- A, X and Y stand. -/
def KeepsAXY (s t : State) : Prop := t.a = s.a ∧ t.x = s.x ∧ t.y = s.y

/-- Every byte outside `touched` reads as before. -/
def KeepsMemoryBut (touched : List Addr) (s t : State) : Prop := ∀ b : Addr, b ∉ touched → t.readByte b = s.readByte b

/-- ADC and SBC are refused in `s`: D = 1 under DECIMAL_POLICY = refuse (41_arithmetic.md R109, R110). -/
def DecimalRefused (s : State) : Prop := s.flags.d = true ∧ s.cfg.decimal = .refuse

/-- No model-side stop can occur: ADC and SBC are not refused, and unknown opcodes continue (00_scope.md R6). -/
def NoModelStop (s : State) : Prop := ¬ DecimalRefused s ∧ s.cfg.unknown = .proceed

/-- The byte a location stores to, if it is in memory (40_engine.md R100). -/
def locBytes : Loc → List Addr
  | .imm _ => []
  | .acc => []
  | .mem ea => [ea]

/-- The bytes an instruction stores to (20_memory.md R47), computed as its meaning computes them. -/
def storedBytes (i : Instr) (s : State) : List Addr :=
  match i with
  | .incZp zp => locBytes (resolve (.zeroPage zp) s).loc
  | .incZpX zp => locBytes (resolve (.zeroPageX zp) s).loc
  | .incAbs addr => locBytes (resolve (.absolute addr) s).loc
  | .incAbsX addr => locBytes (resolve (.absoluteX addr) s).loc
  | .decZp zp => locBytes (resolve (.zeroPage zp) s).loc
  | .decZpX zp => locBytes (resolve (.zeroPageX zp) s).loc
  | .decAbs addr => locBytes (resolve (.absolute addr) s).loc
  | .decAbsX addr => locBytes (resolve (.absoluteX addr) s).loc
  | .staZp zp => locBytes (resolve (.zeroPage zp) s).loc
  | .staZpX zp => locBytes (resolve (.zeroPageX zp) s).loc
  | .staAbs addr => locBytes (resolve (.absolute addr) s).loc
  | .staAbsX addr => locBytes (resolve (.absoluteX addr) s).loc
  | .staAbsY addr => locBytes (resolve (.absoluteY addr) s).loc
  | .staIndX zp => locBytes (resolve (.indexedIndirect zp) s).loc
  | .staIndY zp => locBytes (resolve (.indirectIndexed zp) s).loc
  | .stxZp zp => locBytes (resolve (.zeroPage zp) s).loc
  | .stxZpY zp => locBytes (resolve (.zeroPageY zp) s).loc
  | .stxAbs addr => locBytes (resolve (.absolute addr) s).loc
  | .styZp zp => locBytes (resolve (.zeroPage zp) s).loc
  | .styZpX zp => locBytes (resolve (.zeroPageX zp) s).loc
  | .styAbs addr => locBytes (resolve (.absolute addr) s).loc
  | .aslZp zp => locBytes (resolve (.zeroPage zp) s).loc
  | .aslZpX zp => locBytes (resolve (.zeroPageX zp) s).loc
  | .aslAbs addr => locBytes (resolve (.absolute addr) s).loc
  | .aslAbsX addr => locBytes (resolve (.absoluteX addr) s).loc
  | .lsrZp zp => locBytes (resolve (.zeroPage zp) s).loc
  | .lsrZpX zp => locBytes (resolve (.zeroPageX zp) s).loc
  | .lsrAbs addr => locBytes (resolve (.absolute addr) s).loc
  | .lsrAbsX addr => locBytes (resolve (.absoluteX addr) s).loc
  | .rolZp zp => locBytes (resolve (.zeroPage zp) s).loc
  | .rolZpX zp => locBytes (resolve (.zeroPageX zp) s).loc
  | .rolAbs addr => locBytes (resolve (.absolute addr) s).loc
  | .rolAbsX addr => locBytes (resolve (.absoluteX addr) s).loc
  | .rorZp zp => locBytes (resolve (.zeroPage zp) s).loc
  | .rorZpX zp => locBytes (resolve (.zeroPageX zp) s).loc
  | .rorAbs addr => locBytes (resolve (.absolute addr) s).loc
  | .rorAbsX addr => locBytes (resolve (.absoluteX addr) s).loc
  | .jsr _ => [stackAddr s.sp, stackAddr (s.sp - 1)]
  | .pha => [stackAddr s.sp]
  | .php => [stackAddr s.sp]
  | .brk => [stackAddr s.sp, stackAddr (s.sp - 1), stackAddr (s.sp - 2)]
  | .adcImm _ | .adcZp _ | .adcZpX _ | .adcAbs _ | .adcAbsX _ | .adcAbsY _ | .adcIndX _ | .adcIndY _
  | .sbcImm _ | .sbcZp _ | .sbcZpX _ | .sbcAbs _ | .sbcAbsX _ | .sbcAbsY _ | .sbcIndX _ | .sbcIndY _
  | .cmpImm _ | .cmpZp _ | .cmpZpX _ | .cmpAbs _ | .cmpAbsX _ | .cmpAbsY _ | .cmpIndX _ | .cmpIndY _
  | .cpxImm _ | .cpxZp _ | .cpxAbs _ | .cpyImm _ | .cpyZp _ | .cpyAbs _ | .inx | .iny | .dex | .dey
  | .andImm _ | .andZp _ | .andZpX _ | .andAbs _ | .andAbsX _ | .andAbsY _ | .andIndX _ | .andIndY _
  | .eorImm _ | .eorZp _ | .eorZpX _ | .eorAbs _ | .eorAbsX _ | .eorAbsY _ | .eorIndX _ | .eorIndY _
  | .oraImm _ | .oraZp _ | .oraZpX _ | .oraAbs _ | .oraAbsX _ | .oraAbsY _ | .oraIndX _ | .oraIndY _
  | .bitZp _ | .bitAbs _ | .ldaImm _ | .ldaZp _ | .ldaZpX _ | .ldaAbs _ | .ldaAbsX _ | .ldaAbsY _
  | .ldaIndX _ | .ldaIndY _ | .ldxImm _ | .ldxZp _ | .ldxZpY _ | .ldxAbs _ | .ldxAbsY _ | .ldyImm _
  | .ldyZp _ | .ldyZpX _ | .ldyAbs _ | .ldyAbsX _ | .tax | .tay | .txa | .tya | .tsx | .txs | .aslAcc
  | .lsrAcc | .rolAcc | .rorAcc | .bcc _ | .bcs _ | .beq _ | .bmi _ | .bne _ | .bpl _ | .bvc _ | .bvs _
  | .jmpAbs _ | .jmpInd _ | .rts | .pla | .plp | .rti | .clc | .cld | .cli | .clv | .sec | .sed | .sei
  | .nop | .hlt | .unknown _ => []

/-- The mnemonics of 30_encoding.md R65, the halt and the unknown opcode. -/
inductive Mnemonic where
  | adc | sbc | cmp | cpx | cpy | inc | dec | inx | iny | dex | dey
  | and | eor | ora | bit
  | lda | ldx | ldy | sta | stx | sty | tax | tay | txa | tya | tsx | txs
  | asl | lsr | rol | ror
  | bcc | bcs | beq | bmi | bne | bpl | bvc | bvs | jmp | jsr | rts
  | pha | php | pla | plp | brk | rti | clc | cld | cli | clv | sec | sed | sei | nop
  | hlt | unknown
  deriving DecidableEq, Repr

/-- The mnemonic of an instruction. -/
def mnemonicOf : Instr → Mnemonic
  | .adcImm _ | .adcZp _ | .adcZpX _ | .adcAbs _ | .adcAbsX _ | .adcAbsY _ | .adcIndX _ | .adcIndY _ => .adc
  | .sbcImm _ | .sbcZp _ | .sbcZpX _ | .sbcAbs _ | .sbcAbsX _ | .sbcAbsY _ | .sbcIndX _ | .sbcIndY _ => .sbc
  | .cmpImm _ | .cmpZp _ | .cmpZpX _ | .cmpAbs _ | .cmpAbsX _ | .cmpAbsY _ | .cmpIndX _ | .cmpIndY _ => .cmp
  | .cpxImm _ | .cpxZp _ | .cpxAbs _ => .cpx
  | .cpyImm _ | .cpyZp _ | .cpyAbs _ => .cpy
  | .incZp _ | .incZpX _ | .incAbs _ | .incAbsX _ => .inc
  | .decZp _ | .decZpX _ | .decAbs _ | .decAbsX _ => .dec
  | .inx => .inx
  | .iny => .iny
  | .dex => .dex
  | .dey => .dey
  | .andImm _ | .andZp _ | .andZpX _ | .andAbs _ | .andAbsX _ | .andAbsY _ | .andIndX _ | .andIndY _ => .and
  | .eorImm _ | .eorZp _ | .eorZpX _ | .eorAbs _ | .eorAbsX _ | .eorAbsY _ | .eorIndX _ | .eorIndY _ => .eor
  | .oraImm _ | .oraZp _ | .oraZpX _ | .oraAbs _ | .oraAbsX _ | .oraAbsY _ | .oraIndX _ | .oraIndY _ => .ora
  | .bitZp _ | .bitAbs _ => .bit
  | .ldaImm _ | .ldaZp _ | .ldaZpX _ | .ldaAbs _ | .ldaAbsX _ | .ldaAbsY _ | .ldaIndX _ | .ldaIndY _ => .lda
  | .ldxImm _ | .ldxZp _ | .ldxZpY _ | .ldxAbs _ | .ldxAbsY _ => .ldx
  | .ldyImm _ | .ldyZp _ | .ldyZpX _ | .ldyAbs _ | .ldyAbsX _ => .ldy
  | .staZp _ | .staZpX _ | .staAbs _ | .staAbsX _ | .staAbsY _ | .staIndX _ | .staIndY _ => .sta
  | .stxZp _ | .stxZpY _ | .stxAbs _ => .stx
  | .styZp _ | .styZpX _ | .styAbs _ => .sty
  | .tax => .tax
  | .tay => .tay
  | .txa => .txa
  | .tya => .tya
  | .tsx => .tsx
  | .txs => .txs
  | .aslAcc | .aslZp _ | .aslZpX _ | .aslAbs _ | .aslAbsX _ => .asl
  | .lsrAcc | .lsrZp _ | .lsrZpX _ | .lsrAbs _ | .lsrAbsX _ => .lsr
  | .rolAcc | .rolZp _ | .rolZpX _ | .rolAbs _ | .rolAbsX _ => .rol
  | .rorAcc | .rorZp _ | .rorZpX _ | .rorAbs _ | .rorAbsX _ => .ror
  | .bcc _ => .bcc
  | .bcs _ => .bcs
  | .beq _ => .beq
  | .bmi _ => .bmi
  | .bne _ => .bne
  | .bpl _ => .bpl
  | .bvc _ => .bvc
  | .bvs _ => .bvs
  | .jmpAbs _ | .jmpInd _ => .jmp
  | .jsr _ => .jsr
  | .rts => .rts
  | .pha => .pha
  | .php => .php
  | .pla => .pla
  | .plp => .plp
  | .brk => .brk
  | .rti => .rti
  | .clc => .clc
  | .cld => .cld
  | .cli => .cli
  | .clv => .clv
  | .sec => .sec
  | .sed => .sed
  | .sei => .sei
  | .nop => .nop
  | .hlt => .hlt
  | .unknown _ => .unknown

/-- The operand form of an instruction (30_encoding.md R60, R65); the halt and an unknown opcode have none. -/
def formOf : Instr → Form
  | .inx | .iny | .dex | .dey | .tax | .tay | .txa | .tya | .tsx | .txs | .rts | .pha | .php | .pla | .plp
  | .brk | .rti | .clc | .cld | .cli | .clv | .sec | .sed | .sei | .nop | .hlt | .unknown _ => .implied
  | .bcc _ | .bcs _ | .beq _ | .bmi _ | .bne _ | .bpl _ | .bvc _ | .bvs _ => .relative
  | .aslAcc | .lsrAcc | .rolAcc | .rorAcc => .accumulator
  | .adcImm _ | .sbcImm _ | .cmpImm _ | .cpxImm _ | .cpyImm _ | .andImm _ | .eorImm _ | .oraImm _
  | .ldaImm _ | .ldxImm _ | .ldyImm _ => .immediate
  | .adcZp _ | .sbcZp _ | .cmpZp _ | .cpxZp _ | .cpyZp _ | .incZp _ | .decZp _ | .andZp _ | .eorZp _
  | .oraZp _ | .bitZp _ | .ldaZp _ | .ldxZp _ | .ldyZp _ | .staZp _ | .stxZp _ | .styZp _ | .aslZp _
  | .lsrZp _ | .rolZp _ | .rorZp _ => .zeroPage
  | .adcZpX _ | .sbcZpX _ | .cmpZpX _ | .incZpX _ | .decZpX _ | .andZpX _ | .eorZpX _ | .oraZpX _
  | .ldaZpX _ | .ldyZpX _ | .staZpX _ | .styZpX _ | .aslZpX _ | .lsrZpX _ | .rolZpX _ | .rorZpX _ => .zeroPageX
  | .ldxZpY _ | .stxZpY _ => .zeroPageY
  | .adcAbs _ | .sbcAbs _ | .cmpAbs _ | .cpxAbs _ | .cpyAbs _ | .incAbs _ | .decAbs _ | .andAbs _
  | .eorAbs _ | .oraAbs _ | .bitAbs _ | .ldaAbs _ | .ldxAbs _ | .ldyAbs _ | .staAbs _ | .stxAbs _
  | .styAbs _ | .aslAbs _ | .lsrAbs _ | .rolAbs _ | .rorAbs _ | .jmpAbs _ | .jsr _ => .absolute
  | .adcAbsX _ | .sbcAbsX _ | .cmpAbsX _ | .incAbsX _ | .decAbsX _ | .andAbsX _ | .eorAbsX _ | .oraAbsX _
  | .ldaAbsX _ | .ldyAbsX _ | .staAbsX _ | .aslAbsX _ | .lsrAbsX _ | .rolAbsX _ | .rorAbsX _ => .absoluteX
  | .adcAbsY _ | .sbcAbsY _ | .cmpAbsY _ | .andAbsY _ | .eorAbsY _ | .oraAbsY _ | .ldaAbsY _ | .ldxAbsY _
  | .staAbsY _ => .absoluteY
  | .jmpInd _ => .indirect
  | .adcIndX _ | .sbcIndX _ | .cmpIndX _ | .andIndX _ | .eorIndX _ | .oraIndX _ | .ldaIndX _ | .staIndX _ => .indexedIndirect
  | .adcIndY _ | .sbcIndY _ | .cmpIndY _ | .andIndY _ | .eorIndY _ | .oraIndY _ | .ldaIndY _ | .staIndY _ => .indirectIndexed

/-- The writers of A (10_state.md R15). -/
def writesA (i : Instr) : Bool :=
  [.adc, .sbc, .and, .eor, .ora, .lda, .txa, .tya, .pla].contains (mnemonicOf i) ||
    ([.asl, .lsr, .rol, .ror].contains (mnemonicOf i) && formOf i == .accumulator)

/-- The writers of X (10_state.md R16). -/
def writesX (i : Instr) : Bool := [.ldx, .tax, .tsx, .inx, .dex].contains (mnemonicOf i)

/-- The writers of Y (10_state.md R17). -/
def writesY (i : Instr) : Bool := [.ldy, .tay, .iny, .dey].contains (mnemonicOf i)

/-- The writers of SP (10_state.md R18). -/
def writesSp (i : Instr) : Bool := [.txs, .pha, .php, .pla, .plp, .jsr, .rts, .brk, .rti].contains (mnemonicOf i)

/-- The writers of C (10_state.md R21). -/
def writesC (i : Instr) : Bool :=
  [.adc, .sbc, .cmp, .cpx, .cpy, .asl, .lsr, .rol, .ror, .clc, .sec, .plp, .rti].contains (mnemonicOf i)

/-- The writers of Z, and of N (10_state.md R21). -/
def writesZN (i : Instr) : Bool :=
  [.adc, .sbc, .and, .eor, .ora, .bit, .cmp, .cpx, .cpy, .inc, .dec, .inx, .iny, .dex, .dey, .lda,
    .ldx, .ldy, .tax, .tay, .txa, .tya, .tsx, .pla, .asl, .lsr, .rol, .ror, .plp, .rti].contains (mnemonicOf i)

/-- The writers of V (10_state.md R21). -/
def writesV (i : Instr) : Bool := [.adc, .sbc, .bit, .clv, .plp, .rti].contains (mnemonicOf i)

/-- The writers of I (10_state.md R21). -/
def writesI (i : Instr) : Bool := [.cli, .sei, .brk, .plp, .rti].contains (mnemonicOf i)

/-- The writers of D (10_state.md R21). -/
def writesD (i : Instr) : Bool := [.cld, .sed, .plp, .rti].contains (mnemonicOf i)

/-- The writers of B (10_state.md R21). -/
def writesB (i : Instr) : Bool := [.brk, .plp, .rti].contains (mnemonicOf i)

/-! ### The shapes of the claims about instructions -/

/-- Every row decodes to its instruction whatever HALT_OPCODE is, and that instruction completes on every state: it reads
its operand byte, costs its base plus the page-cross bonus, and then has `effect` (40_engine.md R81, R83, R100). -/
def ReadRule (rows : List OpRow) (effect : Byte → State → State) : Prop :=
  ∀ (s : State) (b1 b2 : Byte), ∀ row ∈ rows, ∃ o, operandOf row.form b1 b2 = some o ∧
    decode s.cfg.haltOpcode row.opcode b1 b2 = row.build b1 b2 ∧
    exec (row.build b1 b2) s =
      .next (effect (operandValue o s) (s.completed row.form.length (row.base + pageBonus o s)))

/-- As `ReadRule`, for an instruction that DECIMAL_POLICY = refuse refuses while D = 1 (41_arithmetic.md R109, R110). -/
def DecimalReadRule (rows : List OpRow) (effect : Byte → State → State) : Prop :=
  ∀ (s : State) (b1 b2 : Byte), ∀ row ∈ rows, ∃ o, operandOf row.form b1 b2 = some o ∧
    decode s.cfg.haltOpcode row.opcode b1 b2 = row.build b1 b2 ∧
    (¬ DecimalRefused s → exec (row.build b1 b2) s =
      .next (effect (operandValue o s) (s.completed row.form.length (row.base + pageBonus o s)))) ∧
    (DecimalRefused s → exec (row.build b1 b2) s = .refused .decimalMode)

/-- Every row decodes to its instruction, which completes on every state: it stores the byte `reg s` at its effective
address, costs its base and nothing more, and changes no register or flag (40_engine.md R83, R100). -/
def StoreRule (rows : List OpRow) (reg : State → Byte) : Prop :=
  ∀ (s : State) (b1 b2 : Byte), ∀ row ∈ rows, ∃ o ea, operandOf row.form b1 b2 = some o ∧
    (resolve o s).loc = .mem ea ∧
    decode s.cfg.haltOpcode row.opcode b1 b2 = row.build b1 b2 ∧
    exec (row.build b1 b2) s = .next ((s.completed row.form.length row.base).writeByte ea (reg s))

/-- Every row decodes to its instruction, which completes on every state: it reads its location, writes the result of
`f` on that byte and the old C back to the same location, sets the flags to `g` of the old flags and the result, and
costs its base and nothing more (40_engine.md R83, R100). -/
def ModifyRule (rows : List OpRow) (f : Byte → Bool → Byte) (g : Byte → Byte → Flags → Flags) : Prop :=
  ∀ (s : State) (b1 b2 : Byte), ∀ row ∈ rows, ∃ o, operandOf row.form b1 b2 = some o ∧
    decode s.cfg.haltOpcode row.opcode b1 b2 = row.build b1 b2 ∧
    exec (row.build b1 b2) s =
      .next (writeOperand (resolve o s).loc (f (operandValue o s) s.flags.c)
        { s.completed row.form.length row.base with
          flags := g (operandValue o s) (f (operandValue o s) s.flags.c) s.flags })

/-- The opcode byte `op` is the Implied instruction `i`, which completes on every state: one byte, 2 cycles, and
`effect` (40_engine.md R82, R98). -/
def ImpliedRule (op : Byte) (i : Instr) (effect : State → State) : Prop :=
  ∀ (s : State) (b1 b2 : Byte), decode s.cfg.haltOpcode op b1 b2 = i ∧ exec i s = .next (effect (s.completed 1 2))

/-- The opcode byte `op` is the branch `i`, which completes on every state by the common rule of 45_control.md R141:
2 cycles not taken; taken, to the address of the next instruction plus the signed offset, 3 cycles, or 4 when the two
addresses lie in different pages. -/
def BranchRule (op : Byte) (i : Byte → Instr) (cond : State → Prop) : Prop :=
  ∀ (s : State) (rel b2 : Byte), decode s.cfg.haltOpcode op rel b2 = i rel ∧
    (¬ cond s → exec (i rel) s = .next (s.completed 2 2)) ∧
    (cond s → ∃ target : Addr,
      (target.toNat : Int) = ((s.pc.toNat : Int) + 2 + rel.toInt) % 65536 ∧
      exec (i rel) s = .next
        { s.completed 2 (if (s.pc + 2).toNat / 256 = target.toNat / 256 then 3 else 4) with pc := target })

end Sys2Proof.Machine
end

