-- ==== Sys2Proof/Certificates/Slice0/Obligations.lean ====
section
/-!
DEFINITION. What is claimed of the model, each claim from a rule of spec/, in the terms of Sys2Proof/Safety.lean. A
claim that gives a whole next state gives the model's own bookkeeping fields with it: `remaining` (log entry 10),
`outcome` (log entry 11), `diags` (log entry 12) and `cfg` (log entry 1).
-/
open Sys2Proof Sys2Proof.Machine

/-! ### Encoding (30_encoding.md) -/

/-- 30_encoding.md R59, R60, R64, R66, R67: decoding the bytes of any well-formed instruction gives it back, with the
bytes after it untouched, whatever HALT_OPCODE is. -/
def Obligations.DecodeInvertsEncode : Prop :=
  ∀ (halt : Option Byte) (i : Instr) (rest : List Byte), i.wf halt = true →
    decodeBytes halt (encode halt i ++ rest) = .ok (i, rest)

/-- 30_encoding.md R63, R69: every three bytes decode to a well-formed instruction, and encoding it gives back the bytes
the opcode's length says it has. -/
def Obligations.EncodeInvertsDecode : Prop :=
  ∀ (halt : Option Byte) (op b1 b2 : Byte),
    (decode halt op b1 b2).wf halt = true ∧
      encode halt (decode halt op b1 b2) = [op, b1, b2].take (opcodeLength op)

/-- 40_engine.md R77 and 30_encoding.md R63, R66: dispatch is a total function of the opcode byte with three outcomes: a
documented instruction for the 151 bytes of the table, the halt for HALT_OPCODE, the unknown opcode for every other
byte; the 105 bytes of R66 are exactly those outside the table. -/
def Obligations.DispatchHasThreeOutcomes : Prop :=
  (∀ row ∈ opcodeTable, ∀ (halt : Option Byte) (b1 b2 : Byte), decode halt row.opcode b1 b2 = row.build b1 b2) ∧
  (∀ (halt : Option Byte) (op b1 b2 : Byte), isUndocumented op = true →
    decode halt op b1 b2 = if halt = some op then .hlt else .unknown op) ∧
  (∀ op : Byte, isUndocumented op = true ↔ ∀ row ∈ opcodeTable, row.opcode ≠ op) ∧
  opcodeTable.length = 151 ∧ undocumentedBytes.length = 105 ∧
  (opcodeTable.map OpRow.opcode).Nodup ∧ undocumentedBytes.Nodup

/-- 30_encoding.md R73: the seven instructions of the source's scenario `A9 10 AA E8 CA A0 05 C8 88`. -/
def Obligations.ScenarioBytesDecode : Prop :=
  ∀ (halt : Option Byte) (b1 b2 : Byte),
    decode halt 0xA9 0x10 b2 = .ldaImm 0x10 ∧ decode halt 0xAA b1 b2 = .tax ∧ decode halt 0xE8 b1 b2 = .inx ∧
    decode halt 0xCA b1 b2 = .dex ∧ decode halt 0xA0 0x05 b2 = .ldyImm 0x05 ∧ decode halt 0xC8 b1 b2 = .iny ∧
    decode halt 0x88 b1 b2 = .dey

/-! ### One step of the machine (40_engine.md) -/

/-- 40_engine.md R76, R78: when the bytes at PC decode to `i`, the step is the meaning of `i` on the state as it stands;
the meaning itself moves PC past the instruction's bytes. That three bytes are read whatever the length is the model's
choice (log entry 14). -/
def Obligations.StepRunsDecodedInstruction : Prop :=
  ∀ (s : State) (i : Instr) (rest : List Byte),
    decodeBytes s.cfg.haltOpcode [s.readByte s.pc, s.readByte (s.pc + 1), s.readByte (s.pc + 2)] = .ok (i, rest) →
      step s = exec i s

/-- 93_implementation_defined.md Part 1: no behaviour of the core is stuck; every Step completes, under every byte and
every state, unless a model-side policy of 00_scope.md R6 stops it. -/
def Obligations.EveryStepCompletes : Prop :=
  ∀ s : State, NoModelStop s → ∃ t, step s = .next t

/-- 60_exceptions.md R173 and 00_scope.md R6: the only stops are the two model-side policies: an unknown opcode under
fault, and ADC or SBC with D = 1 under refuse. -/
def Obligations.OnlyPolicyStops : Prop :=
  ∀ s : State,
    (∀ r, step s = .fault r → s.cfg.unknown = .fault ∧ isUndocumented (s.readByte s.pc) = true ∧
      r = .unknownOpcode (s.readByte s.pc)) ∧
    (∀ r, step s = .refused r → r = .decimalMode ∧ DecimalRefused s ∧
      (mnemonicOf s.nextInstr = .adc ∨ mnemonicOf s.nextInstr = .sbc))

/-- 20_memory.md R38 and 00_scope.md R6: every step keeps the canonical form of memory (addresses strictly rising and
below 65536, nothing listed that reads MEM_INIT anyway: the model's choice, log entry 19) and HALT_OPCODE within its
range. -/
def Obligations.StepKeepsInv : Prop :=
  ∀ s t : State, s.Inv → step s = .next t → t.Inv

/-- 00_scope.md R6: the state after reset meets the invariant, whichever byte the free value HALT_OPCODE is (the model's
choice, log entry 3). -/
def Obligations.ResetMeetsInv : Prop := State.reset.Inv

/-- 40_engine.md R75, R76, R80 and 10_state.md R28: a Step adds 1 to 7 cycles; it returns Halt exactly for the halt
instruction, which forces the remaining budget to 0, and otherwise charges the budget with exactly what CYC gained; it
never changes a parameter. How budget, outcome and parameters stand in the state is the model's choice (log entries 1,
10, 11). -/
def Obligations.StepAccountsForItsCycles : Prop :=
  ∀ s t : State, step s = .next t →
    s.cyc + 1 ≤ t.cyc ∧ t.cyc ≤ s.cyc + 7 ∧ t.cfg = s.cfg ∧
    (t.outcome = .halt ↔ s.nextInstr = .hlt) ∧
    (t.outcome = .halt → t.remaining = s.remaining.map fun _ => 0) ∧
    (t.outcome = .cont → t.remaining = s.remaining.map fun r => r - ((t.cyc : Int) - s.cyc))

/-- 40_engine.md R81, R83: an instruction of the table other than a branch costs exactly its base count, plus 1 exactly
when its row has the page-cross bonus and its indexed address crosses a page. -/
def Obligations.CostsMatchTheTable : Prop :=
  ∀ (s t : State) (b1 b2 : Byte), ∀ row ∈ opcodeTable, row.bonus ≠ .branch →
    exec (row.build b1 b2) s = .next t →
      t.cyc = s.cyc + row.base +
        (match row.bonus, operandOf row.form b1 b2 with
          | .pageCross, some o => if (resolve o s).crossed then 1 else 0
          | _, _ => 0)

/-- 46_stack_system.md R170 and 60_exceptions.md R172: a Step emits no event, or it is the Step of an unknown opcode and
emits that opcode's event with CYC after the fetch; ILLEGAL_MODE is never emitted. The event history is the model's own
field (log entry 12). -/
def Obligations.OnlyUnknownOpcodesEmitEvents : Prop :=
  ∀ s t : State, step s = .next t →
    (t.diags = s.diags ∧ mnemonicOf s.nextInstr ≠ .unknown) ∨
    (isUndocumented (s.readByte s.pc) = true ∧ s.cfg.haltOpcode ≠ some (s.readByte s.pc) ∧
      t.diags = s.diags ++ [.unknownOpcode t.cyc (s.readByte s.pc)])

/-- 10_state.md R28 and 70_reset_and_hazards.md R193: no instruction reads CYC; starting from another count changes
nothing but the count. (The event of an unknown opcode carries CYC, so that step is left out.) -/
def Obligations.CycIsNeverRead : Prop :=
  ∀ (s t : State) (k : Nat), mnemonicOf s.nextInstr ≠ .unknown → step s = .next t →
    step { s with cyc := k } = .next { t with cyc := k + (t.cyc - s.cyc) }

/-- 20_memory.md R47, R58: an instruction changes no byte outside those it stores to, at the addresses its own meaning
computes. -/
def Obligations.OnlyStoredBytesChange : Prop :=
  ∀ (i : Instr) (s t : State), exec i s = .next t → KeepsMemoryBut (storedBytes i s) s t

/-- 10_state.md R15 to R18, R36: A, X, Y and SP are written by no instruction but their writers. -/
def Obligations.OnlyWritersChangeRegisters : Prop :=
  ∀ (i : Instr) (s t : State), exec i s = .next t →
    (writesA i = false → t.a = s.a) ∧ (writesX i = false → t.x = s.x) ∧
    (writesY i = false → t.y = s.y) ∧ (writesSp i = false → t.sp = s.sp)

/-- 10_state.md R21: a flag is written by no instruction but the writers its row names. -/
def Obligations.OnlyWritersChangeFlags : Prop :=
  ∀ (i : Instr) (s t : State), exec i s = .next t →
    (writesC i = false → t.flags.c = s.flags.c) ∧ (writesZN i = false → t.flags.z = s.flags.z) ∧
    (writesZN i = false → t.flags.n = s.flags.n) ∧ (writesV i = false → t.flags.v = s.flags.v) ∧
    (writesI i = false → t.flags.i = s.flags.i) ∧ (writesD i = false → t.flags.d = s.flags.d) ∧
    (writesB i = false → t.flags.b = s.flags.b)

/-! ### Memory and the stack (20_memory.md, 46_stack_system.md) -/

/-- 20_memory.md R40: MemWrite sets the byte at its address and changes no other byte and no register. -/
def Obligations.WriteSetsOneByte : Prop :=
  ∀ (s : State) (a b : Addr) (v : Byte),
    (s.writeByte a v).readByte b = (if b = a then v else s.readByte b) ∧
      ∃ m, s.writeByte a v = { s with mem := m }

/-- 20_memory.md R38: the canonical form holds a memory's contents and nothing else: two canonical memories with the
same byte at every address are equal. The list form is the model's choice (log entry 19). -/
def Obligations.CanonicalMemoryIsItsContents : Prop :=
  ∀ (init : Byte) (m m' : Memory), Memory.wf init m = true → Memory.wf init m' = true →
    (∀ a : Addr, Memory.read init m a.toNat = Memory.read init m' a.toNat) → m = m'

/-- 20_memory.md R45: the three 16-bit reads: read16 wraps modulo 65536, read16zp stays in page 0, read16bug takes the
high byte from the pointer's own page and is read16 unless the pointer's low byte is 0xFF. -/
def Obligations.SixteenBitReads : Prop :=
  ∀ (s : State) (a : Addr) (z : Byte),
    (s.read16 a).toNat =
      (s.readByte (BitVec.ofNat 16 ((a.toNat + 1) % 65536))).toNat * 256 + (s.readByte a).toNat ∧
    (s.read16zp z).toNat =
      (s.readByte (BitVec.ofNat 16 ((z.toNat + 1) % 256))).toNat * 256 +
        (s.readByte (BitVec.ofNat 16 z.toNat)).toNat ∧
    (s.read16bug a).toNat =
      (s.readByte (BitVec.ofNat 16 (a.toNat / 256 * 256 + (a.toNat + 1) % 256))).toNat * 256 +
        (s.readByte a).toNat ∧
    (a.toNat % 256 ≠ 0xFF → s.read16bug a = s.read16 a)

/-- 46_stack_system.md R154: a push writes at 0x0100 + SP and then decrements SP modulo 256; a pull increments SP modulo
256 and then reads there; every stack byte lies in page 1; a 16-bit value is pushed high byte first and pulled low byte
first; a pull after a push returns the byte and restores SP. -/
def Obligations.StackPushAndPull : Prop :=
  ∀ (s : State) (v : Byte) (w : Addr),
    (stackAddr s.sp).toNat = 0x100 + s.sp.toNat ∧
    s.push v = { s.writeByte (stackAddr s.sp) v with sp := s.sp - 1 } ∧
    s.afterPull = { s with sp := s.sp + 1 } ∧ s.pulled = s.readByte (stackAddr (s.sp + 1)) ∧
    s.push16 w = (s.push (hi w)).push (lo w) ∧
    (s.push v).pulled = v ∧ (s.push v).afterPull.sp = s.sp ∧
    (s.push16 w).pulled16 = w ∧ (s.push16 w).afterPull16.sp = s.sp

/-- 46_stack_system.md R154: PHA then PLA gives A back, and PHP then PLP every flag; SP returns to its value before the
push. -/
def Obligations.StackDiscipline : Prop :=
  ∀ s : State,
    (∃ t u, exec .pha s = .next t ∧ exec .pla t = .next u ∧ u.a = s.a ∧ u.sp = s.sp) ∧
    (∃ t u, exec .php s = .next t ∧ exec .plp t = .next u ∧ u.flags = s.flags ∧ u.sp = s.sp)

/-! ### Addressing modes (40_engine.md) -/

/-- 40_engine.md R87 to R97, R100: the location of each of the eleven modes, in exact arithmetic: zero-page sums modulo
256, 16-bit sums modulo 65536, and the page-cross bit of the three indexed modes. -/
def Obligations.AddressingModes : Prop :=
  ∀ (s : State) (z : Byte) (base : Addr),
    resolve (.immediate z) s = ⟨.imm z, false⟩ ∧ resolve .accumulator s = ⟨.acc, false⟩ ∧
    resolve (.zeroPage z) s = ⟨.mem (BitVec.ofNat 16 z.toNat), false⟩ ∧
    resolve (.zeroPageX z) s = ⟨.mem (BitVec.ofNat 16 ((z.toNat + s.x.toNat) % 256)), false⟩ ∧
    resolve (.zeroPageY z) s = ⟨.mem (BitVec.ofNat 16 ((z.toNat + s.y.toNat) % 256)), false⟩ ∧
    resolve (.absolute base) s = ⟨.mem base, false⟩ ∧
    (let ea := (base.toNat + s.x.toNat) % 65536
     resolve (.absoluteX base) s = ⟨.mem (BitVec.ofNat 16 ea), decide (base.toNat / 256 ≠ ea / 256)⟩) ∧
    (let ea := (base.toNat + s.y.toNat) % 65536
     resolve (.absoluteY base) s = ⟨.mem (BitVec.ofNat 16 ea), decide (base.toNat / 256 ≠ ea / 256)⟩) ∧
    resolve (.indirect base) s = ⟨.mem (s.read16bug base), false⟩ ∧
    resolve (.indexedIndirect z) s = ⟨.mem (s.read16zp (BitVec.ofNat 8 (z.toNat + s.x.toNat))), false⟩ ∧
    (let b := (s.read16zp z).toNat
     let ea := (b + s.y.toNat) % 65536
     resolve (.indirectIndexed z) s = ⟨.mem (BitVec.ofNat 16 ea), decide (b / 256 ≠ ea / 256)⟩) ∧
    readOperand (.imm z) s = z ∧ readOperand .acc s = s.a ∧ readOperand (.mem base) s = s.readByte base ∧
    writeOperand .acc z s = { s with a := z } ∧ writeOperand (.mem base) z s = s.writeByte base z

/-- 40_engine.md R99: the branch target is the address of the next instruction plus the offset read as two's complement,
modulo 65536. -/
def Obligations.BranchTargetIsSigned : Prop :=
  ∀ (rel : Byte) (next : Addr),
    (branchTarget rel next).toNat =
      (next.toNat + (if rel.toNat < 0x80 then rel.toNat else rel.toNat + 0xFF00)) % 65536

/-! ### The status byte and the ALU (10_state.md, 40_engine.md) -/

/-- 10_state.md R25, R26: the packed status byte is N*0x80 + V*0x40 + 0x20 + B*0x10 + D*0x08 + I*0x04 + Z*0x02 + C;
unpacking takes the seven bits and ignores bit 5, so unpacking a packed byte changes no flag and packing an unpacked
byte sets bit 5. -/
def Obligations.StatusByteLayout : Prop :=
  (∀ f : Flags, (encodeStatus f).toNat =
    bit f.n * 0x80 + bit f.v * 0x40 + 0x20 + bit f.b * 0x10 + bit f.d * 0x08 + bit f.i * 0x04 + bit f.z * 0x02 +
      bit f.c) ∧
  (∀ p : Byte, decodeStatus p =
    { n := p.getLsbD 7, v := p.getLsbD 6, b := p.getLsbD 4, d := p.getLsbD 3, i := p.getLsbD 2,
      z := p.getLsbD 1, c := p.getLsbD 0 }) ∧
  (∀ f : Flags, decodeStatus (encodeStatus f) = f) ∧
  (∀ p : Byte, encodeStatus (decodeStatus p) = p ||| 0x20)

/-- 40_engine.md R102 and 10_state.md R23: the adder: the result is the exact sum modulo 256, the carry says that it is
above 0xFF, and the overflow, by the formula of R102, says that the signed sum does not fit in a byte. -/
def Obligations.AdderIsExact : Prop :=
  ∀ (a b : Byte) (c : Bool),
    (aluAdd a b c).r.toNat = (a.toNat + b.toNat + bit c) % 256 ∧
    (aluAdd a b c).cout = decide (a.toNat + b.toNat + bit c > 0xFF) ∧
    (aluAdd a b c).v = ((~~~(a ^^^ b) &&& (a ^^^ (aluAdd a b c).r) &&& 0x80) != 0) ∧
    ((aluAdd a b c).v = true ↔ (aluAdd a b c).r.toInt ≠ a.toInt + b.toInt + bit c)

/-- 40_engine.md R103 and 10_state.md R23: the subtractor: the result is the exact difference modulo 256, the carry says
that there was no borrow (a at least b plus the borrow in), and the overflow, by the formula of R103, says that the
signed difference does not fit in a byte. -/
def Obligations.SubtractorIsExact : Prop :=
  ∀ (a b : Byte) (c : Bool),
    ((aluSub a b c).r.toNat : Int) = ((a.toNat : Int) - b.toNat - (1 - bit c)) % 256 ∧
    (aluSub a b c).cout = decide (a.toNat ≥ b.toNat + (1 - bit c)) ∧
    (aluSub a b c).v = (((a ^^^ b) &&& (a ^^^ (aluSub a b c).r) &&& 0x80) != 0) ∧
    ((aluSub a b c).v = true ↔ (aluSub a b c).r.toInt ≠ a.toInt - b.toInt - (1 - bit c))

/-- 40_engine.md R101, R104, R107: the comparator sets C, Z and N from the unsigned comparison and the difference modulo
256 and keeps the other flags; setZN; increment and decrement modulo 256. -/
def Obligations.ComparatorAndHelpers : Prop :=
  ∀ (f : Flags) (r m : Byte),
    f.compare r m =
      { f with c := decide (m.toNat ≤ r.toNat), z := decide (r = m),
               n := decide (0x80 ≤ ((r.toNat : Int) - m.toNat) % 256) } ∧
    f.setZN r = { f with z := decide (r.toNat = 0), n := decide (0x80 ≤ r.toNat) } ∧
    (inc8 r).toNat = (r.toNat + 1) % 256 ∧ ((dec8 r).toNat : Int) = ((r.toNat : Int) - 1) % 256

/-- 40_engine.md R105: the four shifts, result and bit shifted out, in exact arithmetic. -/
def Obligations.ShifterIsExact : Prop :=
  ∀ (v : Byte) (c : Bool),
    (asl v).r.toNat = v.toNat * 2 % 256 ∧ (asl v).cout = decide (0x80 ≤ v.toNat) ∧
    (lsr v).r.toNat = v.toNat / 2 ∧ (lsr v).cout = decide (v.toNat % 2 = 1) ∧
    (rol v c).r.toNat = (v.toNat * 2 + bit c) % 256 ∧ (rol v c).cout = decide (0x80 ≤ v.toNat) ∧
    (ror v c).r.toNat = v.toNat / 2 + bit c * 0x80 ∧ (ror v c).cout = decide (v.toNat % 2 = 1)

/-- 41_arithmetic.md R120, laws 3, 4 and 5: SBC m is ADC of the complement of m, on every state; ADC then SBC with the
complemented carry restores the accumulator; a comparison sets C, Z and N as a subtraction with C = 1 would and keeps V. -/
def Obligations.ArithmeticLaws : Prop :=
  (∀ (s : State) (m : Byte), exec (.sbcImm m) s = exec (.adcImm (~~~m)) s) ∧
  (∀ (a m : Byte) (c : Bool), (aluSub (aluAdd a m c).r m (!c)).r = a) ∧
  (∀ (f : Flags) (r m : Byte), f.compare r m = { f.setAlu (aluSub r m true) with v := f.v })

/-! ### Arithmetic and logic instructions (41_arithmetic.md, 42_logic.md) -/

/-- 41_arithmetic.md R109: ADC in its eight modes (adcImm, adcZp, adcZpX, adcAbs, adcAbsX, adcAbsY, adcIndX, adcIndY). -/
def Obligations.AdcAddsWithCarry : Prop :=
  DecimalReadRule adcRows fun m t =>
    { t with
      a := (aluAdd t.a m t.flags.c).r
      flags :=
        { t.flags with
          c := (aluAdd t.a m t.flags.c).cout
          v := (aluAdd t.a m t.flags.c).v
          z := decide ((aluAdd t.a m t.flags.c).r = 0)
          n := (aluAdd t.a m t.flags.c).r.getLsbD 7 } }

/-- 41_arithmetic.md R110: SBC in its eight modes (sbcImm, sbcZp, sbcZpX, sbcAbs, sbcAbsX, sbcAbsY, sbcIndX, sbcIndY). -/
def Obligations.SbcSubtractsWithBorrow : Prop :=
  DecimalReadRule sbcRows fun m t =>
    { t with
      a := (aluSub t.a m t.flags.c).r
      flags :=
        { t.flags with
          c := (aluSub t.a m t.flags.c).cout
          v := (aluSub t.a m t.flags.c).v
          z := decide ((aluSub t.a m t.flags.c).r = 0)
          n := (aluSub t.a m t.flags.c).r.getLsbD 7 } }

/-- 41_arithmetic.md R111, R112, R113: CMP (eight modes), CPX (three) and CPY (three) set C, Z and N from the register
minus the operand and change nothing else. -/
def Obligations.ComparesSetFlagsOnly : Prop :=
  ReadRule cmpRows (fun m t =>
    { t with flags := { t.flags with c := decide (m.toNat ≤ t.a.toNat), z := decide (t.a = m),
                                     n := (t.a - m).getLsbD 7 } }) ∧
  ReadRule cpxRows (fun m t =>
    { t with flags := { t.flags with c := decide (m.toNat ≤ t.x.toNat), z := decide (t.x = m),
                                     n := (t.x - m).getLsbD 7 } }) ∧
  ReadRule cpyRows (fun m t =>
    { t with flags := { t.flags with c := decide (m.toNat ≤ t.y.toNat), z := decide (t.y = m),
                                     n := (t.y - m).getLsbD 7 } })

/-- 41_arithmetic.md R114, R115: INC and DEC (four modes each) write the operand plus or minus 1 modulo 256 back to its
address and set Z and N; C and V stand. -/
def Obligations.IncDecMemory : Prop :=
  ModifyRule incRows (fun m _ => BitVec.ofNat 8 (m.toNat + 1))
    (fun _ r f => { f with z := decide (r = 0), n := r.getLsbD 7 }) ∧
  ModifyRule decRows (fun m _ => BitVec.ofNat 8 (m.toNat + 255))
    (fun _ r f => { f with z := decide (r = 0), n := r.getLsbD 7 })

/-- 41_arithmetic.md R116 to R119: INX, INY, DEX and DEY. -/
def Obligations.IncDecIndexRegisters : Prop :=
  ImpliedRule 0xE8 .inx (fun t =>
    { t with x := t.x + 1, flags := { t.flags with z := decide (t.x = 0xFF), n := (t.x + 1).getLsbD 7 } }) ∧
  ImpliedRule 0xC8 .iny (fun t =>
    { t with y := t.y + 1, flags := { t.flags with z := decide (t.y = 0xFF), n := (t.y + 1).getLsbD 7 } }) ∧
  ImpliedRule 0xCA .dex (fun t =>
    { t with x := t.x - 1, flags := { t.flags with z := decide (t.x = 1), n := (t.x - 1).getLsbD 7 } }) ∧
  ImpliedRule 0x88 .dey (fun t =>
    { t with y := t.y - 1, flags := { t.flags with z := decide (t.y = 1), n := (t.y - 1).getLsbD 7 } })

/-- 42_logic.md R121, R122, R123: AND, EOR and ORA in their eight modes each; C and V stand. -/
def Obligations.LogicOnAccumulator : Prop :=
  ReadRule andRows (fun m t =>
    { t with a := t.a &&& m,
             flags := { t.flags with z := decide (t.a &&& m = 0), n := t.a.getLsbD 7 && m.getLsbD 7 } }) ∧
  ReadRule eorRows (fun m t =>
    { t with a := t.a ^^^ m,
             flags := { t.flags with z := decide (t.a = m), n := t.a.getLsbD 7 ^^ m.getLsbD 7 } }) ∧
  ReadRule oraRows (fun m t =>
    { t with a := t.a ||| m,
             flags := { t.flags with z := decide (t.a = 0 ∧ m = 0), n := t.a.getLsbD 7 || m.getLsbD 7 } })

/-- 42_logic.md R124: BIT in its two modes: Z from A AND the operand, N and V from the operand's bits 7 and 6; A and C
stand. -/
def Obligations.BitTestsOperand : Prop :=
  ReadRule bitRows fun m t =>
    { t with flags := { t.flags with z := decide (t.a &&& m = 0), n := m.getLsbD 7, v := m.getLsbD 6 } }

/-! ### Loads, stores, transfers, shifts (43_load_store_transfer.md, 44_shift_rotate.md) -/

/-- 43_load_store_transfer.md R125, R126, R127: LDA (eight modes), LDX (five) and LDY (five) load the operand byte and
set Z and N. -/
def Obligations.LoadsSetRegisterAndZN : Prop :=
  ReadRule ldaRows (fun m t =>
    { t with a := m, flags := { t.flags with z := decide (m = 0), n := m.getLsbD 7 } }) ∧
  ReadRule ldxRows (fun m t =>
    { t with x := m, flags := { t.flags with z := decide (m = 0), n := m.getLsbD 7 } }) ∧
  ReadRule ldyRows (fun m t =>
    { t with y := m, flags := { t.flags with z := decide (m = 0), n := m.getLsbD 7 } })

/-- 43_load_store_transfer.md R128, R129, R130: STA (seven modes), STX (three) and STY (three) write the register at the
effective address, with no flag and no page-cross bonus. -/
def Obligations.StoresWriteOneByte : Prop :=
  StoreRule staRows State.a ∧ StoreRule stxRows State.x ∧ StoreRule styRows State.y

/-- 43_load_store_transfer.md R131 to R136: TAX, TAY, TXA, TYA and TSX copy a register and set Z and N; TXS copies X to
SP and sets no flag. -/
def Obligations.TransfersCopyRegisters : Prop :=
  ImpliedRule 0xAA .tax (fun t =>
    { t with x := t.a, flags := { t.flags with z := decide (t.a = 0), n := t.a.getLsbD 7 } }) ∧
  ImpliedRule 0xA8 .tay (fun t =>
    { t with y := t.a, flags := { t.flags with z := decide (t.a = 0), n := t.a.getLsbD 7 } }) ∧
  ImpliedRule 0x8A .txa (fun t =>
    { t with a := t.x, flags := { t.flags with z := decide (t.x = 0), n := t.x.getLsbD 7 } }) ∧
  ImpliedRule 0x98 .tya (fun t =>
    { t with a := t.y, flags := { t.flags with z := decide (t.y = 0), n := t.y.getLsbD 7 } }) ∧
  ImpliedRule 0xBA .tsx (fun t =>
    { t with x := t.sp, flags := { t.flags with z := decide (t.sp = 0), n := t.sp.getLsbD 7 } }) ∧
  ImpliedRule 0x9A .txs (fun t => { t with sp := t.x })

/-- 44_shift_rotate.md R137 to R140: ASL, LSR, ROL and ROR on A and in their four memory modes: the result goes back to
the location read, C is the bit shifted out, Z and N come from the result, V stands. -/
def Obligations.ShiftsMoveOneBit : Prop :=
  ModifyRule aslRows (fun v _ => BitVec.ofNat 8 (v.toNat * 2))
    (fun v r f => { f with c := v.getLsbD 7, z := decide (r = 0), n := r.getLsbD 7 }) ∧
  ModifyRule lsrRows (fun v _ => BitVec.ofNat 8 (v.toNat / 2))
    (fun v r f => { f with c := v.getLsbD 0, z := decide (r = 0), n := false }) ∧
  ModifyRule rolRows (fun v c => BitVec.ofNat 8 (v.toNat * 2 + bit c))
    (fun v r f => { f with c := v.getLsbD 7, z := decide (r = 0), n := r.getLsbD 7 }) ∧
  ModifyRule rorRows (fun v c => BitVec.ofNat 8 (v.toNat / 2 + bit c * 0x80))
    (fun v r f => { f with c := v.getLsbD 0, z := decide (r = 0), n := f.c })

/-! ### Control transfer (45_control.md) -/

/-- 45_control.md R141 to R149 and 40_engine.md R84, R99: the eight branches, each on its flag. -/
def Obligations.BranchesTakeTheirFlag : Prop :=
  BranchRule 0x90 .bcc (fun s => s.flags.c = false) ∧ BranchRule 0xB0 .bcs (fun s => s.flags.c = true) ∧
  BranchRule 0xF0 .beq (fun s => s.flags.z = true) ∧ BranchRule 0x30 .bmi (fun s => s.flags.n = true) ∧
  BranchRule 0xD0 .bne (fun s => s.flags.z = false) ∧ BranchRule 0x10 .bpl (fun s => s.flags.n = false) ∧
  BranchRule 0x50 .bvc (fun s => s.flags.v = false) ∧ BranchRule 0x70 .bvs (fun s => s.flags.v = true)

/-- 45_control.md R150: JMP Absolute in 3 cycles and JMP Indirect, with the page-wrap bug, in 5; nothing but PC changes. -/
def Obligations.JmpSetsPc : Prop :=
  ∀ (s : State) (b1 b2 : Byte),
    decode s.cfg.haltOpcode 0x4C b1 b2 = .jmpAbs (BitVec.ofNat 16 (b2.toNat * 256 + b1.toNat)) ∧
    decode s.cfg.haltOpcode 0x6C b1 b2 = .jmpInd (BitVec.ofNat 16 (b2.toNat * 256 + b1.toNat)) ∧
    ∀ a : Addr,
      exec (.jmpAbs a) s = .next { s.completed 3 3 with pc := a } ∧
      exec (.jmpInd a) s = .next { s.completed 3 5 with pc := s.read16bug a }

/-- 45_control.md R151: JSR pushes the address of its last byte, high byte first, and jumps; the two stack bytes are in
page 1 wherever SP stands, and nothing else changes but SP and PC. -/
def Obligations.JsrPushesReturnAddress : Prop :=
  ∀ (s : State) (b1 b2 : Byte) (target : Addr),
    decode s.cfg.haltOpcode 0x20 b1 b2 = .jsr (BitVec.ofNat 16 (b2.toNat * 256 + b1.toNat)) ∧
    ∃ t, exec (.jsr target) s = .next t ∧ t.pc = target ∧ t.sp = s.sp - 2 ∧
      (t.readByte (stackAddr s.sp)).toNat = (s.pc + 2).toNat / 256 ∧
      (t.readByte (stackAddr (s.sp - 1))).toNat = (s.pc + 2).toNat % 256 ∧
      t.flags = s.flags ∧ KeepsAXY s t ∧ Accounted s t 6 ∧
      KeepsMemoryBut [stackAddr s.sp, stackAddr (s.sp - 1)] s t

/-- 45_control.md R152: RTS pulls the low and the high byte and continues at that address plus 1, modulo 65536; nothing
else changes but SP. -/
def Obligations.RtsReturnsPastJsr : Prop :=
  ∀ (s : State) (b1 b2 : Byte),
    decode s.cfg.haltOpcode 0x60 b1 b2 = .rts ∧
    ∃ t, exec .rts s = .next t ∧
      t.pc.toNat =
        ((s.readByte (stackAddr (s.sp + 2))).toNat * 256 + (s.readByte (stackAddr (s.sp + 1))).toNat + 1) % 65536 ∧
      t.sp = s.sp + 2 ∧ t.mem = s.mem ∧ t.flags = s.flags ∧ KeepsAXY s t ∧ Accounted s t 6

/-- 45_control.md R152: executing JSR and then RTS continues at the instruction after the JSR, with SP as it was. -/
def Obligations.JsrRtsRoundTrip : Prop :=
  ∀ (s : State) (target : Addr), ∃ t u, exec (.jsr target) s = .next t ∧ exec .rts t = .next u ∧
    u.pc = s.pc + 3 ∧ u.sp = s.sp ∧ u.flags = s.flags ∧ KeepsAXY s u

/-! ### Stack, trap, flag and system instructions (46_stack_system.md, 60_exceptions.md) -/

/-- 46_stack_system.md R155, R156: PHA pushes A and PHP the packed status, with bit 5 set and B as stored; no flag
changes. -/
def Obligations.PushInstructions : Prop :=
  ∀ (s : State) (b1 b2 : Byte),
    decode s.cfg.haltOpcode 0x48 b1 b2 = .pha ∧ decode s.cfg.haltOpcode 0x08 b1 b2 = .php ∧
    exec .pha s = .next { (s.completed 1 3).writeByte (stackAddr s.sp) s.a with sp := s.sp - 1 } ∧
    exec .php s = .next { (s.completed 1 3).writeByte (stackAddr s.sp) (encodeStatus s.flags) with sp := s.sp - 1 }

/-- 46_stack_system.md R157, R158: PLA pulls A and sets Z and N; PLP pulls all seven flags and ignores bit 5. -/
def Obligations.PullInstructions : Prop :=
  ∀ (s : State) (b1 b2 : Byte),
    decode s.cfg.haltOpcode 0x68 b1 b2 = .pla ∧ decode s.cfg.haltOpcode 0x28 b1 b2 = .plp ∧
    (let v := s.readByte (stackAddr (s.sp + 1))
     exec .pla s = .next
       { s.completed 1 4 with
         sp := s.sp + 1, a := v, flags := { s.flags with z := decide (v = 0), n := v.getLsbD 7 } } ∧
     exec .plp s = .next
       { s.completed 1 4 with
         sp := s.sp + 1
         flags := { n := v.getLsbD 7, v := v.getLsbD 6, b := v.getLsbD 4, d := v.getLsbD 3, i := v.getLsbD 2,
                    z := v.getLsbD 1, c := v.getLsbD 0 } })

/-- 46_stack_system.md R159 and 60_exceptions.md R176: BRK, whatever I holds: the return address (its own address plus
BRK_RETURN_OFFSET) pushed high byte first, then the status with B = 1, bit 5 = 1 and the old I; B stays 1, I becomes 1
when BRK_SETS_I; PC comes from 0xFFFE (low) and 0xFFFF (high); A, X, Y, C, Z, D, V and N stand; 7 cycles. -/
def Obligations.BrkTakesTheTrap : Prop :=
  ∀ (s : State) (b1 b2 : Byte),
    decode s.cfg.haltOpcode 0x00 b1 b2 = .brk ∧
    ∃ t, exec .brk s = .next t ∧
      (let ret := s.pc + (match s.cfg.brkReturn with | .one => 1 | .two => 2)
       (t.readByte (stackAddr s.sp)).toNat = ret.toNat / 256 ∧
       (t.readByte (stackAddr (s.sp - 1))).toNat = ret.toNat % 256) ∧
      t.readByte (stackAddr (s.sp - 2)) = encodeStatus { s.flags with b := true } ∧
      t.sp = s.sp - 3 ∧
      t.flags = { s.flags with b := true, i := if s.cfg.brkSetsI then true else s.flags.i } ∧
      t.pc.toNat = (s.readByte 0xFFFF).toNat * 256 + (s.readByte 0xFFFE).toNat ∧
      KeepsAXY s t ∧ Accounted s t 7 ∧
      KeepsMemoryBut [stackAddr s.sp, stackAddr (s.sp - 1), stackAddr (s.sp - 2)] s t

/-- 46_stack_system.md R160 and 60_exceptions.md R177: RTI pulls the status (all seven flags), then PC low and high, and
continues there with no + 1; it does not check who pushed the frame. -/
def Obligations.RtiReturnsFromTheTrap : Prop :=
  ∀ (s : State) (b1 b2 : Byte),
    decode s.cfg.haltOpcode 0x40 b1 b2 = .rti ∧
    ∃ t, exec .rti s = .next t ∧
      t.flags = decodeStatus (s.readByte (stackAddr (s.sp + 1))) ∧
      t.pc.toNat =
        (s.readByte (stackAddr (s.sp + 3))).toNat * 256 + (s.readByte (stackAddr (s.sp + 2))).toNat ∧
      t.sp = s.sp + 3 ∧ t.mem = s.mem ∧ KeepsAXY s t ∧ Accounted s t 6

/-- 60_exceptions.md R177: BRK and then RTI restores PC and status exactly as they were pushed, the Break bit included. -/
def Obligations.BrkRtiRoundTrip : Prop :=
  ∀ s : State, ∃ t u, exec .brk s = .next t ∧ exec .rti t = .next u ∧
    u.pc = s.pc + (match s.cfg.brkReturn with | .one => 1 | .two => 2) ∧
    u.flags = { s.flags with b := true } ∧ u.sp = s.sp ∧ KeepsAXY s u

/-- 46_stack_system.md R161 to R168: the seven flag instructions set or clear exactly one flag; NOP does nothing but
take its one byte and two cycles. -/
def Obligations.FlagInstructionsAndNop : Prop :=
  ImpliedRule 0x18 .clc (fun t => { t with flags := { t.flags with c := false } }) ∧
  ImpliedRule 0xD8 .cld (fun t => { t with flags := { t.flags with d := false } }) ∧
  ImpliedRule 0x58 .cli (fun t => { t with flags := { t.flags with i := false } }) ∧
  ImpliedRule 0xB8 .clv (fun t => { t with flags := { t.flags with v := false } }) ∧
  ImpliedRule 0x38 .sec (fun t => { t with flags := { t.flags with c := true } }) ∧
  ImpliedRule 0xF8 .sed (fun t => { t with flags := { t.flags with d := true } }) ∧
  ImpliedRule 0x78 .sei (fun t => { t with flags := { t.flags with i := true } }) ∧
  ImpliedRule 0xEA .nop (fun t => t)

/-- 46_stack_system.md R169: the halt: PC and CYC advance by the fetch, the Step returns Halt and the remaining budget
of a running Execute call is forced to 0; no register, flag or memory byte changes; with HALT_OPCODE = NONE no byte is
the halt. How outcome and budget stand in the state is the model's choice (log entries 10, 11). -/
def Obligations.HltEndsTheCall : Prop :=
  ∀ (s : State) (b1 b2 : Byte),
    (∀ h, s.cfg.haltOpcode = some h → isUndocumented h = true → decode s.cfg.haltOpcode h b1 b2 = .hlt) ∧
    (s.cfg.haltOpcode = none → ∀ op, decode s.cfg.haltOpcode op b1 b2 ≠ .hlt) ∧
    exec .hlt s = .next
      { s with pc := s.pc + 1, cyc := s.cyc + 1, remaining := s.remaining.map fun _ => 0, outcome := .halt }

/-- 46_stack_system.md R170: an unknown opcode: under the policy continue, PC and CYC advance by 1, and the event with
CYC after the fetch and the byte joins the history; under fault, the model-side fault. The history is the model's own
field (log entry 12), and a fault carries no state (log entry 20). -/
def Obligations.UnknownOpcodesAreReported : Prop :=
  ∀ (s : State) (op b1 b2 : Byte),
    (isUndocumented op = true → s.cfg.haltOpcode ≠ some op → decode s.cfg.haltOpcode op b1 b2 = .unknown op) ∧
    (s.cfg.unknown = .proceed → exec (.unknown op) s = .next
      { s.completed 1 1 with diags := s.diags ++ [.unknownOpcode (s.cyc + 1) op] }) ∧
    (s.cfg.unknown = .fault → exec (.unknown op) s = .fault (.unknownOpcode op))

/-! ### Reset and the host's transactions (70_reset_and_hazards.md, 20_memory.md, 40_engine.md) -/

/-- 70_reset_and_hazards.md R183 and 10_state.md R33: Reset: PC from the vector, A, X, Y, the flags and CYC zero, SP
0xFF, memory untouched, the packed status 0x20. -/
def Obligations.ResetSeedsFromTheVector : Prop :=
  ∀ s : State,
    (hostReset s).pc.toNat = (s.readByte 0xFFFD).toNat * 256 + (s.readByte 0xFFFC).toNat ∧
    (hostReset s).a = 0 ∧ (hostReset s).x = 0 ∧ (hostReset s).y = 0 ∧ (hostReset s).sp = 0xFF ∧
    (hostReset s).cyc = 0 ∧ (hostReset s).mem = s.mem ∧ encodeStatus (hostReset s).flags = 0x20 ∧
    (hostReset s).flags =
      { n := false, v := false, b := false, d := false, i := false, z := false, c := false } ∧
    (hostReset s).remaining = none

/-- 70_reset_and_hazards.md R184: the registers, flags and CYC after Reset depend only on the two vector bytes: two cores
that agree on those come out of Reset with the same PC, registers, flags and CYC, whatever they held before. -/
def Obligations.ResetDependsOnlyOnTheVector : Prop :=
  ∀ s s' : State, s.readByte 0xFFFC = s'.readByte 0xFFFC → s.readByte 0xFFFD = s'.readByte 0xFFFD →
    ∃ m p d, hostReset s' = { hostReset s with mem := m, cfg := p, diags := d }

/-- 70_reset_and_hazards.md R183, R185: the state `State.reset` is a constructed core with the default parameters after
Reset. The register values before the Reset are free values (log entry 9), and the result does not depend on them;
HALT_OPCODE is the free value of log entry 3. -/
def Obligations.PowerOnIsConstructThenReset : Prop :=
  State.reset = hostReset (construct Params.default) ∧
    State.reset.pc = 0x6969 ∧ ∀ a : Addr, State.reset.readByte a = 0x69

/-- 20_memory.md R43, R57: HostWrite sets one byte; the image load puts byte k at base + k, drops the bytes past 0xFFFF
and changes no other byte; HostClear leaves MEM_INIT everywhere. None of them touches a register. -/
def Obligations.HostWritesMemoryOnly : Prop :=
  ∀ (s : State) (base : Nat) (image : List Byte) (a b : Addr) (v : Byte),
    (hostWrite a v s).readByte b = (if b = a then v else s.readByte b) ∧
    (loadImage base image s).readByte a =
      (if base ≤ a.toNat then image.getD (a.toNat - base) (s.readByte a) else s.readByte a) ∧
    (hostClear s).readByte a = s.cfg.memInit ∧
    (∃ m, hostWrite a v s = { s with mem := m }) ∧ (∃ m, loadImage base image s = { s with mem := m }) ∧
    (∃ m, hostClear s = { s with mem := m })

/-- 70_reset_and_hazards.md R188: inspecting an inclusive range returns its bytes in order, and a reversed range is
refused; the packed status reads bit 5 as 1. -/
def Obligations.InspectionReadsBytes : Prop :=
  ∀ (s : State) (first last : Addr),
    (last.toNat < first.toNat → inspectRange first last s = .error (.reversedRange first last)) ∧
    (first.toNat ≤ last.toNat → ∃ bytes, inspectRange first last s = .ok bytes ∧
      bytes.length = last.toNat - first.toNat + 1 ∧
      ∀ a : Addr, first.toNat ≤ a.toNat → a.toNat ≤ last.toNat →
        bytes[a.toNat - first.toNat]? = some (s.readByte a)) ∧
    (inspectStatus s).getLsbD 5 = true

/-- 40_engine.md R75: Execute(N) runs nothing when N is not positive; otherwise it runs one Step and then, unless that
Step returned Halt, goes on as Execute of the budget less what CYC gained; a model-side stop ends it. The executable
loop's fuel and the fields that hold budget and outcome are the model's choice (log entries 10, 11). -/
def Obligations.ExecuteIteratesStep : Prop :=
  ∀ (n : Int) (s : State),
    (n ≤ 0 → execute n s = .next { s with remaining := none }) ∧
    (0 < n →
      (∀ t, step s = .next t → execute n s =
        if t.outcome = .halt then .next { t with remaining := none }
        else execute (n - ((t.cyc : Int) - s.cyc)) t) ∧
      (∀ r, step s = .fault r → execute n s = .fault r) ∧
      (∀ r, step s = .refused r → execute n s = .refused r))

/-- 60_exceptions.md R181: Execute(1) runs exactly one instruction: it is one Step. -/
def Obligations.ExecuteOneIsOneStep : Prop :=
  ∀ s t : State, step s = .next t → execute 1 s = .next { t with remaining := none }
end

