-- ==== Sys2Proof/Laws/Decode.lean ====
section
/-!
SUPPORT. The byte-order helpers in exact arithmetic, the opcode table's uniqueness, and the decoder on a table row.
-/
namespace Sys2Proof

theorem word_toNat (h l : Byte) : (word h l).toNat = h.toNat * 256 + l.toNat := by
  rw [word, BitVec.toNat_append, Nat.shiftLeft_eq, ← Nat.shiftLeft_eq, ← Nat.shiftLeft_add_eq_or_of_lt l.isLt,
    Nat.shiftLeft_eq]

theorem hi_toNat (w : Addr) : (hi w).toNat = w.toNat / 256 := by
  have := w.isLt
  simp only [hi, BitVec.extractLsb'_toNat, Nat.shiftRight_eq_div_pow]
  omega

theorem lo_toNat (w : Addr) : (lo w).toNat = w.toNat % 256 := by
  simp [lo, BitVec.extractLsb'_toNat]

theorem zext16_toNat (b : Byte) : (zext16 b).toNat = b.toNat := by
  have := b.isLt
  simp only [zext16, BitVec.toNat_setWidth]
  omega

@[simp] theorem word_hi_lo (w : Addr) : word (hi w) (lo w) = w := by
  apply BitVec.eq_of_toNat_eq
  rw [word_toNat, hi_toNat, lo_toNat]
  omega

@[simp] theorem hi_word (h l : Byte) : hi (word h l) = h := by
  apply BitVec.eq_of_toNat_eq
  rw [hi_toNat, word_toNat]
  have := l.isLt
  omega

@[simp] theorem lo_word (h l : Byte) : lo (word h l) = l := by
  apply BitVec.eq_of_toNat_eq
  rw [lo_toNat, word_toNat]
  have := l.isLt
  omega

theorem zext16_inj {a b : Byte} : zext16 a = zext16 b ↔ a = b := by
  rw [← BitVec.toNat_inj, ← BitVec.toNat_inj, zext16_toNat, zext16_toNat]

/-- No opcode byte has two rows. -/
theorem opcodes_nodup : (opcodeTable.map OpRow.opcode).Nodup := by decide +kernel

/-- A row is the one its opcode finds. -/
theorem findRow_of_mem {r : OpRow} (h : r ∈ opcodeTable) : findRow r.opcode = some r := by
  have key : ∀ (l : List OpRow), (l.map OpRow.opcode).Nodup → r ∈ l →
      l.find? (fun q => q.opcode == r.opcode) = some r := by
    intro l
    induction l with
    | nil => simp
    | cons q l ih =>
      intro hn hm
      simp only [List.map_cons, List.nodup_cons] at hn
      rcases List.mem_cons.1 hm with rfl | hm
      · simp
      · have hne : q.opcode ≠ r.opcode := fun he => hn.1 (he ▸ List.mem_map_of_mem hm)
        simp [hne, ih hn.2 hm]
  exact key _ opcodes_nodup h

/-- What a row finds is in the table and has the opcode. -/
theorem mem_of_findRow {op : Byte} {r : OpRow} (h : findRow op = some r) : r ∈ opcodeTable ∧ r.opcode = op :=
  ⟨List.mem_of_find?_eq_some h, by simpa using List.find?_some h⟩

/-- A documented opcode decodes to what its row builds, whatever HALT_OPCODE is. -/
theorem decode_row {r : OpRow} (h : r ∈ opcodeTable) (halt : Option Byte) (b1 b2 : Byte) :
    decode halt r.opcode b1 b2 = r.build b1 b2 := by
  simp [decode, findRow_of_mem h]

/-- The bytes without a row are the 105 of R66. -/
theorem findRow_none_iff (op : Byte) : findRow op = none ↔ isUndocumented op = true := by
  revert op; decide +kernel

/-- A byte outside the table decodes to the halt or to an unknown opcode. -/
theorem decode_undocumented {op : Byte} (h : isUndocumented op = true) (halt : Option Byte) (b1 b2 : Byte) :
    decode halt op b1 b2 = if halt = some op then .hlt else .unknown op := by
  simp [decode, (findRow_none_iff op).2 h, decodeUndocumented]

/-- What every row of the table satisfies, family by family. -/
theorem forall_opcodeTable {P : OpRow → Prop} (h1 : ∀ r ∈ loadStoreRows, P r) (h2 : ∀ r ∈ arithmeticRows, P r)
    (h3 : ∀ r ∈ logicRows, P r) (h4 : ∀ r ∈ shiftRows, P r) (h5 : ∀ r ∈ controlRows, P r)
    (h6 : ∀ r ∈ systemRows, P r) : ∀ r ∈ opcodeTable, P r := by
  simp only [opcodeTable, List.mem_append]
  rintro r (((((h | h) | h) | h) | h) | h)
  exacts [h1 r h, h2 r h, h3 r h, h4 r h, h5 r h, h6 r h]

end Sys2Proof
end

