-- ==== Sys2Proof/Laws/State.lean ====
section
/-!
SUPPORT. What each named update of the state does to each field, one lemma per field, so that no proof unfolds a record
update.
-/
namespace Sys2Proof.Machine

@[simp] theorem State.setA_a (s : State) (v : Byte) : (s.setA v).a = v := rfl
@[simp] theorem State.setA_x (s : State) (v : Byte) : (s.setA v).x = s.x := rfl
@[simp] theorem State.setA_y (s : State) (v : Byte) : (s.setA v).y = s.y := rfl
@[simp] theorem State.setA_sp (s : State) (v : Byte) : (s.setA v).sp = s.sp := rfl
@[simp] theorem State.setA_pc (s : State) (v : Byte) : (s.setA v).pc = s.pc := rfl
@[simp] theorem State.setA_flags (s : State) (v : Byte) : (s.setA v).flags = s.flags := rfl
@[simp] theorem State.setA_cyc (s : State) (v : Byte) : (s.setA v).cyc = s.cyc := rfl
@[simp] theorem State.setA_mem (s : State) (v : Byte) : (s.setA v).mem = s.mem := rfl
@[simp] theorem State.setA_remaining (s : State) (v : Byte) : (s.setA v).remaining = s.remaining := rfl
@[simp] theorem State.setA_outcome (s : State) (v : Byte) : (s.setA v).outcome = s.outcome := rfl
@[simp] theorem State.setA_diags (s : State) (v : Byte) : (s.setA v).diags = s.diags := rfl
@[simp] theorem State.setA_cfg (s : State) (v : Byte) : (s.setA v).cfg = s.cfg := rfl

@[simp] theorem State.setX_a (s : State) (v : Byte) : (s.setX v).a = s.a := rfl
@[simp] theorem State.setX_x (s : State) (v : Byte) : (s.setX v).x = v := rfl
@[simp] theorem State.setX_y (s : State) (v : Byte) : (s.setX v).y = s.y := rfl
@[simp] theorem State.setX_sp (s : State) (v : Byte) : (s.setX v).sp = s.sp := rfl
@[simp] theorem State.setX_pc (s : State) (v : Byte) : (s.setX v).pc = s.pc := rfl
@[simp] theorem State.setX_flags (s : State) (v : Byte) : (s.setX v).flags = s.flags := rfl
@[simp] theorem State.setX_cyc (s : State) (v : Byte) : (s.setX v).cyc = s.cyc := rfl
@[simp] theorem State.setX_mem (s : State) (v : Byte) : (s.setX v).mem = s.mem := rfl
@[simp] theorem State.setX_remaining (s : State) (v : Byte) : (s.setX v).remaining = s.remaining := rfl
@[simp] theorem State.setX_outcome (s : State) (v : Byte) : (s.setX v).outcome = s.outcome := rfl
@[simp] theorem State.setX_diags (s : State) (v : Byte) : (s.setX v).diags = s.diags := rfl
@[simp] theorem State.setX_cfg (s : State) (v : Byte) : (s.setX v).cfg = s.cfg := rfl

@[simp] theorem State.setY_a (s : State) (v : Byte) : (s.setY v).a = s.a := rfl
@[simp] theorem State.setY_x (s : State) (v : Byte) : (s.setY v).x = s.x := rfl
@[simp] theorem State.setY_y (s : State) (v : Byte) : (s.setY v).y = v := rfl
@[simp] theorem State.setY_sp (s : State) (v : Byte) : (s.setY v).sp = s.sp := rfl
@[simp] theorem State.setY_pc (s : State) (v : Byte) : (s.setY v).pc = s.pc := rfl
@[simp] theorem State.setY_flags (s : State) (v : Byte) : (s.setY v).flags = s.flags := rfl
@[simp] theorem State.setY_cyc (s : State) (v : Byte) : (s.setY v).cyc = s.cyc := rfl
@[simp] theorem State.setY_mem (s : State) (v : Byte) : (s.setY v).mem = s.mem := rfl
@[simp] theorem State.setY_remaining (s : State) (v : Byte) : (s.setY v).remaining = s.remaining := rfl
@[simp] theorem State.setY_outcome (s : State) (v : Byte) : (s.setY v).outcome = s.outcome := rfl
@[simp] theorem State.setY_diags (s : State) (v : Byte) : (s.setY v).diags = s.diags := rfl
@[simp] theorem State.setY_cfg (s : State) (v : Byte) : (s.setY v).cfg = s.cfg := rfl

@[simp] theorem State.setSp_a (s : State) (v : Byte) : (s.setSp v).a = s.a := rfl
@[simp] theorem State.setSp_x (s : State) (v : Byte) : (s.setSp v).x = s.x := rfl
@[simp] theorem State.setSp_y (s : State) (v : Byte) : (s.setSp v).y = s.y := rfl
@[simp] theorem State.setSp_sp (s : State) (v : Byte) : (s.setSp v).sp = v := rfl
@[simp] theorem State.setSp_pc (s : State) (v : Byte) : (s.setSp v).pc = s.pc := rfl
@[simp] theorem State.setSp_flags (s : State) (v : Byte) : (s.setSp v).flags = s.flags := rfl
@[simp] theorem State.setSp_cyc (s : State) (v : Byte) : (s.setSp v).cyc = s.cyc := rfl
@[simp] theorem State.setSp_mem (s : State) (v : Byte) : (s.setSp v).mem = s.mem := rfl
@[simp] theorem State.setSp_remaining (s : State) (v : Byte) : (s.setSp v).remaining = s.remaining := rfl
@[simp] theorem State.setSp_outcome (s : State) (v : Byte) : (s.setSp v).outcome = s.outcome := rfl
@[simp] theorem State.setSp_diags (s : State) (v : Byte) : (s.setSp v).diags = s.diags := rfl
@[simp] theorem State.setSp_cfg (s : State) (v : Byte) : (s.setSp v).cfg = s.cfg := rfl

@[simp] theorem State.setPc_a (s : State) (t : Addr) : (s.setPc t).a = s.a := rfl
@[simp] theorem State.setPc_x (s : State) (t : Addr) : (s.setPc t).x = s.x := rfl
@[simp] theorem State.setPc_y (s : State) (t : Addr) : (s.setPc t).y = s.y := rfl
@[simp] theorem State.setPc_sp (s : State) (t : Addr) : (s.setPc t).sp = s.sp := rfl
@[simp] theorem State.setPc_pc (s : State) (t : Addr) : (s.setPc t).pc = t := rfl
@[simp] theorem State.setPc_flags (s : State) (t : Addr) : (s.setPc t).flags = s.flags := rfl
@[simp] theorem State.setPc_cyc (s : State) (t : Addr) : (s.setPc t).cyc = s.cyc := rfl
@[simp] theorem State.setPc_mem (s : State) (t : Addr) : (s.setPc t).mem = s.mem := rfl
@[simp] theorem State.setPc_remaining (s : State) (t : Addr) : (s.setPc t).remaining = s.remaining := rfl
@[simp] theorem State.setPc_outcome (s : State) (t : Addr) : (s.setPc t).outcome = s.outcome := rfl
@[simp] theorem State.setPc_diags (s : State) (t : Addr) : (s.setPc t).diags = s.diags := rfl
@[simp] theorem State.setPc_cfg (s : State) (t : Addr) : (s.setPc t).cfg = s.cfg := rfl

@[simp] theorem State.setFlags_a (s : State) (f : Flags) : (s.setFlags f).a = s.a := rfl
@[simp] theorem State.setFlags_x (s : State) (f : Flags) : (s.setFlags f).x = s.x := rfl
@[simp] theorem State.setFlags_y (s : State) (f : Flags) : (s.setFlags f).y = s.y := rfl
@[simp] theorem State.setFlags_sp (s : State) (f : Flags) : (s.setFlags f).sp = s.sp := rfl
@[simp] theorem State.setFlags_pc (s : State) (f : Flags) : (s.setFlags f).pc = s.pc := rfl
@[simp] theorem State.setFlags_flags (s : State) (f : Flags) : (s.setFlags f).flags = f := rfl
@[simp] theorem State.setFlags_cyc (s : State) (f : Flags) : (s.setFlags f).cyc = s.cyc := rfl
@[simp] theorem State.setFlags_mem (s : State) (f : Flags) : (s.setFlags f).mem = s.mem := rfl
@[simp] theorem State.setFlags_remaining (s : State) (f : Flags) : (s.setFlags f).remaining = s.remaining := rfl
@[simp] theorem State.setFlags_outcome (s : State) (f : Flags) : (s.setFlags f).outcome = s.outcome := rfl
@[simp] theorem State.setFlags_diags (s : State) (f : Flags) : (s.setFlags f).diags = s.diags := rfl
@[simp] theorem State.setFlags_cfg (s : State) (f : Flags) : (s.setFlags f).cfg = s.cfg := rfl

@[simp] theorem State.setZN_a (s : State) (v : Byte) : (s.setZN v).a = s.a := rfl
@[simp] theorem State.setZN_x (s : State) (v : Byte) : (s.setZN v).x = s.x := rfl
@[simp] theorem State.setZN_y (s : State) (v : Byte) : (s.setZN v).y = s.y := rfl
@[simp] theorem State.setZN_sp (s : State) (v : Byte) : (s.setZN v).sp = s.sp := rfl
@[simp] theorem State.setZN_pc (s : State) (v : Byte) : (s.setZN v).pc = s.pc := rfl
@[simp] theorem State.setZN_flags (s : State) (v : Byte) : (s.setZN v).flags = s.flags.setZN v := rfl
@[simp] theorem State.setZN_cyc (s : State) (v : Byte) : (s.setZN v).cyc = s.cyc := rfl
@[simp] theorem State.setZN_mem (s : State) (v : Byte) : (s.setZN v).mem = s.mem := rfl
@[simp] theorem State.setZN_remaining (s : State) (v : Byte) : (s.setZN v).remaining = s.remaining := rfl
@[simp] theorem State.setZN_outcome (s : State) (v : Byte) : (s.setZN v).outcome = s.outcome := rfl
@[simp] theorem State.setZN_diags (s : State) (v : Byte) : (s.setZN v).diags = s.diags := rfl
@[simp] theorem State.setZN_cfg (s : State) (v : Byte) : (s.setZN v).cfg = s.cfg := rfl

@[simp] theorem State.writeByte_a (s : State) (k : Addr) (v : Byte) : (s.writeByte k v).a = s.a := rfl
@[simp] theorem State.writeByte_x (s : State) (k : Addr) (v : Byte) : (s.writeByte k v).x = s.x := rfl
@[simp] theorem State.writeByte_y (s : State) (k : Addr) (v : Byte) : (s.writeByte k v).y = s.y := rfl
@[simp] theorem State.writeByte_sp (s : State) (k : Addr) (v : Byte) : (s.writeByte k v).sp = s.sp := rfl
@[simp] theorem State.writeByte_pc (s : State) (k : Addr) (v : Byte) : (s.writeByte k v).pc = s.pc := rfl
@[simp] theorem State.writeByte_flags (s : State) (k : Addr) (v : Byte) : (s.writeByte k v).flags = s.flags := rfl
@[simp] theorem State.writeByte_cyc (s : State) (k : Addr) (v : Byte) : (s.writeByte k v).cyc = s.cyc := rfl
@[simp] theorem State.writeByte_mem (s : State) (k : Addr) (v : Byte) : (s.writeByte k v).mem = Memory.write s.unlisted k.toNat v s.mem := rfl
@[simp] theorem State.writeByte_remaining (s : State) (k : Addr) (v : Byte) : (s.writeByte k v).remaining = s.remaining := rfl
@[simp] theorem State.writeByte_outcome (s : State) (k : Addr) (v : Byte) : (s.writeByte k v).outcome = s.outcome := rfl
@[simp] theorem State.writeByte_diags (s : State) (k : Addr) (v : Byte) : (s.writeByte k v).diags = s.diags := rfl
@[simp] theorem State.writeByte_cfg (s : State) (k : Addr) (v : Byte) : (s.writeByte k v).cfg = s.cfg := rfl

@[simp] theorem State.completed_a (s : State) (len cost : Nat) : (s.completed len cost).a = s.a := rfl
@[simp] theorem State.completed_x (s : State) (len cost : Nat) : (s.completed len cost).x = s.x := rfl
@[simp] theorem State.completed_y (s : State) (len cost : Nat) : (s.completed len cost).y = s.y := rfl
@[simp] theorem State.completed_sp (s : State) (len cost : Nat) : (s.completed len cost).sp = s.sp := rfl
@[simp] theorem State.completed_pc (s : State) (len cost : Nat) : (s.completed len cost).pc = s.pc + BitVec.ofNat 16 len := rfl
@[simp] theorem State.completed_flags (s : State) (len cost : Nat) : (s.completed len cost).flags = s.flags := rfl
@[simp] theorem State.completed_cyc (s : State) (len cost : Nat) : (s.completed len cost).cyc = s.cyc + cost := rfl
@[simp] theorem State.completed_mem (s : State) (len cost : Nat) : (s.completed len cost).mem = s.mem := rfl
@[simp] theorem State.completed_remaining (s : State) (len cost : Nat) : (s.completed len cost).remaining = s.remaining.map fun r => r - (cost : Int) := rfl
@[simp] theorem State.completed_outcome (s : State) (len cost : Nat) : (s.completed len cost).outcome = .cont := rfl
@[simp] theorem State.completed_diags (s : State) (len cost : Nat) : (s.completed len cost).diags = s.diags := rfl
@[simp] theorem State.completed_cfg (s : State) (len cost : Nat) : (s.completed len cost).cfg = s.cfg := rfl

@[simp] theorem State.halting_a (s : State) : (s.halting).a = s.a := rfl
@[simp] theorem State.halting_x (s : State) : (s.halting).x = s.x := rfl
@[simp] theorem State.halting_y (s : State) : (s.halting).y = s.y := rfl
@[simp] theorem State.halting_sp (s : State) : (s.halting).sp = s.sp := rfl
@[simp] theorem State.halting_pc (s : State) : (s.halting).pc = s.pc := rfl
@[simp] theorem State.halting_flags (s : State) : (s.halting).flags = s.flags := rfl
@[simp] theorem State.halting_cyc (s : State) : (s.halting).cyc = s.cyc := rfl
@[simp] theorem State.halting_mem (s : State) : (s.halting).mem = s.mem := rfl
@[simp] theorem State.halting_remaining (s : State) : (s.halting).remaining = s.remaining.map fun _ => 0 := rfl
@[simp] theorem State.halting_outcome (s : State) : (s.halting).outcome = .halt := rfl
@[simp] theorem State.halting_diags (s : State) : (s.halting).diags = s.diags := rfl
@[simp] theorem State.halting_cfg (s : State) : (s.halting).cfg = s.cfg := rfl

@[simp] theorem State.raiseDiag_a (s : State) (d : Diag) : (s.raiseDiag d).a = s.a := rfl
@[simp] theorem State.raiseDiag_x (s : State) (d : Diag) : (s.raiseDiag d).x = s.x := rfl
@[simp] theorem State.raiseDiag_y (s : State) (d : Diag) : (s.raiseDiag d).y = s.y := rfl
@[simp] theorem State.raiseDiag_sp (s : State) (d : Diag) : (s.raiseDiag d).sp = s.sp := rfl
@[simp] theorem State.raiseDiag_pc (s : State) (d : Diag) : (s.raiseDiag d).pc = s.pc := rfl
@[simp] theorem State.raiseDiag_flags (s : State) (d : Diag) : (s.raiseDiag d).flags = s.flags := rfl
@[simp] theorem State.raiseDiag_cyc (s : State) (d : Diag) : (s.raiseDiag d).cyc = s.cyc := rfl
@[simp] theorem State.raiseDiag_mem (s : State) (d : Diag) : (s.raiseDiag d).mem = s.mem := rfl
@[simp] theorem State.raiseDiag_remaining (s : State) (d : Diag) : (s.raiseDiag d).remaining = s.remaining := rfl
@[simp] theorem State.raiseDiag_outcome (s : State) (d : Diag) : (s.raiseDiag d).outcome = s.outcome := rfl
@[simp] theorem State.raiseDiag_diags (s : State) (d : Diag) : (s.raiseDiag d).diags = s.diags ++ [d] := rfl
@[simp] theorem State.raiseDiag_cfg (s : State) (d : Diag) : (s.raiseDiag d).cfg = s.cfg := rfl

@[simp] theorem State.push_a (s : State) (v : Byte) : (s.push v).a = s.a := rfl
@[simp] theorem State.push_x (s : State) (v : Byte) : (s.push v).x = s.x := rfl
@[simp] theorem State.push_y (s : State) (v : Byte) : (s.push v).y = s.y := rfl
@[simp] theorem State.push_sp (s : State) (v : Byte) : (s.push v).sp = s.sp - 1 := rfl
@[simp] theorem State.push_pc (s : State) (v : Byte) : (s.push v).pc = s.pc := rfl
@[simp] theorem State.push_flags (s : State) (v : Byte) : (s.push v).flags = s.flags := rfl
@[simp] theorem State.push_cyc (s : State) (v : Byte) : (s.push v).cyc = s.cyc := rfl
@[simp] theorem State.push_mem (s : State) (v : Byte) : (s.push v).mem = Memory.write s.unlisted (stackAddr s.sp).toNat v s.mem := rfl
@[simp] theorem State.push_remaining (s : State) (v : Byte) : (s.push v).remaining = s.remaining := rfl
@[simp] theorem State.push_outcome (s : State) (v : Byte) : (s.push v).outcome = s.outcome := rfl
@[simp] theorem State.push_diags (s : State) (v : Byte) : (s.push v).diags = s.diags := rfl
@[simp] theorem State.push_cfg (s : State) (v : Byte) : (s.push v).cfg = s.cfg := rfl

@[simp] theorem State.afterPull_a (s : State) : (s.afterPull).a = s.a := rfl
@[simp] theorem State.afterPull_x (s : State) : (s.afterPull).x = s.x := rfl
@[simp] theorem State.afterPull_y (s : State) : (s.afterPull).y = s.y := rfl
@[simp] theorem State.afterPull_sp (s : State) : (s.afterPull).sp = s.sp + 1 := rfl
@[simp] theorem State.afterPull_pc (s : State) : (s.afterPull).pc = s.pc := rfl
@[simp] theorem State.afterPull_flags (s : State) : (s.afterPull).flags = s.flags := rfl
@[simp] theorem State.afterPull_cyc (s : State) : (s.afterPull).cyc = s.cyc := rfl
@[simp] theorem State.afterPull_mem (s : State) : (s.afterPull).mem = s.mem := rfl
@[simp] theorem State.afterPull_remaining (s : State) : (s.afterPull).remaining = s.remaining := rfl
@[simp] theorem State.afterPull_outcome (s : State) : (s.afterPull).outcome = s.outcome := rfl
@[simp] theorem State.afterPull_diags (s : State) : (s.afterPull).diags = s.diags := rfl
@[simp] theorem State.afterPull_cfg (s : State) : (s.afterPull).cfg = s.cfg := rfl

@[simp] theorem State.withBudget_a (s : State) (n : Int) : (s.withBudget n).a = s.a := rfl
@[simp] theorem State.withBudget_x (s : State) (n : Int) : (s.withBudget n).x = s.x := rfl
@[simp] theorem State.withBudget_y (s : State) (n : Int) : (s.withBudget n).y = s.y := rfl
@[simp] theorem State.withBudget_sp (s : State) (n : Int) : (s.withBudget n).sp = s.sp := rfl
@[simp] theorem State.withBudget_pc (s : State) (n : Int) : (s.withBudget n).pc = s.pc := rfl
@[simp] theorem State.withBudget_flags (s : State) (n : Int) : (s.withBudget n).flags = s.flags := rfl
@[simp] theorem State.withBudget_cyc (s : State) (n : Int) : (s.withBudget n).cyc = s.cyc := rfl
@[simp] theorem State.withBudget_mem (s : State) (n : Int) : (s.withBudget n).mem = s.mem := rfl
@[simp] theorem State.withBudget_remaining (s : State) (n : Int) : (s.withBudget n).remaining = some n := rfl
@[simp] theorem State.withBudget_outcome (s : State) (n : Int) : (s.withBudget n).outcome = s.outcome := rfl
@[simp] theorem State.withBudget_diags (s : State) (n : Int) : (s.withBudget n).diags = s.diags := rfl
@[simp] theorem State.withBudget_cfg (s : State) (n : Int) : (s.withBudget n).cfg = s.cfg := rfl

@[simp] theorem State.callEnded_a (s : State) : (s.callEnded).a = s.a := rfl
@[simp] theorem State.callEnded_x (s : State) : (s.callEnded).x = s.x := rfl
@[simp] theorem State.callEnded_y (s : State) : (s.callEnded).y = s.y := rfl
@[simp] theorem State.callEnded_sp (s : State) : (s.callEnded).sp = s.sp := rfl
@[simp] theorem State.callEnded_pc (s : State) : (s.callEnded).pc = s.pc := rfl
@[simp] theorem State.callEnded_flags (s : State) : (s.callEnded).flags = s.flags := rfl
@[simp] theorem State.callEnded_cyc (s : State) : (s.callEnded).cyc = s.cyc := rfl
@[simp] theorem State.callEnded_mem (s : State) : (s.callEnded).mem = s.mem := rfl
@[simp] theorem State.callEnded_remaining (s : State) : (s.callEnded).remaining = none := rfl
@[simp] theorem State.callEnded_outcome (s : State) : (s.callEnded).outcome = s.outcome := rfl
@[simp] theorem State.callEnded_diags (s : State) : (s.callEnded).diags = s.diags := rfl
@[simp] theorem State.callEnded_cfg (s : State) : (s.callEnded).cfg = s.cfg := rfl

end Sys2Proof.Machine
end

