-- ==== Sys2Proof/Laws/Memory.lean ====
section
/-!
SUPPORT. The byte store: a read after a write, the canonical form kept by every operation, and the same for the state's
reads and writes.
-/
namespace Sys2Proof.Machine

/-! ### Reads after writes, on any list -/

theorem Memory.read_erase (init : Byte) (a b : Nat) (m : Memory) :
    Memory.read init (Memory.erase a m) b = if b = a then init else Memory.read init m b := by
  induction m with
  | nil => simp [Memory.erase, Memory.read]
  | cons e m ih =>
    obtain ⟨k, w⟩ := e
    by_cases hk : k = a
    · subst hk
      by_cases hb : b = k
      · subst hb; simpa [Memory.erase] using ih
      · simp [Memory.erase, Memory.read, ih, hb, Ne.symm hb]
    · by_cases hb : b = a
      · subst hb; simp [Memory.erase, Memory.read, ih, hk]
      · simp [Memory.erase, Memory.read, ih, hk, hb]

theorem Memory.read_insert (init : Byte) (a b : Nat) (v : Byte) (m : Memory) :
    Memory.read init (Memory.insert a v m) b = if b = a then v else Memory.read init m b := by
  induction m with
  | nil => simp [Memory.insert, Memory.read, eq_comm]
  | cons e m ih =>
    obtain ⟨k, w⟩ := e
    by_cases h1 : a < k
    · simp [Memory.insert, Memory.read, h1, eq_comm (a := a)]
    · by_cases h2 : a = k
      · subst h2
        by_cases hb : b = a
        · simp [Memory.insert, Memory.read, hb]
        · simp [Memory.insert, Memory.read, hb, Ne.symm hb]
      · by_cases hb : b = a
        · subst hb; simp [Memory.insert, Memory.read, h1, h2, ih, Ne.symm h2]
        · simp [Memory.insert, Memory.read, h1, h2, ih, hb]

/-- The read-over-write law of 20_memory.md R40, on any list. -/
theorem Memory.read_write (init : Byte) (a b : Nat) (v : Byte) (m : Memory) :
    Memory.read init (Memory.write init a v m) b = if b = a then v else Memory.read init m b := by
  unfold Memory.write
  by_cases hv : v = init
  · subst hv; simp [Memory.read_erase]
  · simp [hv, Memory.read_insert]

/-! ### The canonical form -/

/-- `a` is above a lower bound. -/
def Memory.above (low : Option Nat) (a : Nat) : Bool :=
  match low with
  | none => true
  | some l => decide (l < a)

theorem Memory.wfFrom_cons (init : Byte) (low : Option Nat) (k : Nat) (v : Byte) (m : Memory) :
    Memory.wfFrom init low ((k, v) :: m) = true ↔
      Memory.above low k = true ∧ k < 65536 ∧ v ≠ init ∧ Memory.wfFrom init (some k) m = true := by
  cases low <;> simp [Memory.wfFrom, Memory.above, and_assoc]

/-- A canonical tail above a higher bound is canonical above a lower one. -/
theorem Memory.wfFrom_weaken (init : Byte) {low : Option Nat} {k : Nat} (hk : Memory.above low k = true)
    {m : Memory} (h : Memory.wfFrom init (some k) m = true) : Memory.wfFrom init low m = true := by
  cases m with
  | nil => rfl
  | cons e m =>
    obtain ⟨k', v⟩ := e
    rw [Memory.wfFrom_cons] at h ⊢
    refine ⟨?_, h.2⟩
    cases low with
    | none => rfl
    | some l =>
      have h1 := h.1
      simp only [Memory.above, decide_eq_true_eq] at *
      omega

theorem Memory.wfFrom_erase (init : Byte) (a : Nat) (m : Memory) (low : Option Nat)
    (h : Memory.wfFrom init low m = true) : Memory.wfFrom init low (Memory.erase a m) = true := by
  induction m generalizing low with
  | nil => rfl
  | cons e m ih =>
    obtain ⟨k, v⟩ := e
    rw [Memory.wfFrom_cons] at h
    by_cases hk : k = a
    · simp only [Memory.erase, hk, if_true]
      subst hk
      exact ih low (Memory.wfFrom_weaken init h.1 h.2.2.2)
    · simp only [Memory.erase, hk, if_false]
      rw [Memory.wfFrom_cons]
      exact ⟨h.1, h.2.1, h.2.2.1, ih _ h.2.2.2⟩

theorem Memory.wfFrom_insert (init : Byte) (a : Nat) (v : Byte) (ha : a < 65536) (hv : v ≠ init) (m : Memory)
    (low : Option Nat) (hl : Memory.above low a = true) (h : Memory.wfFrom init low m = true) :
    Memory.wfFrom init low (Memory.insert a v m) = true := by
  induction m generalizing low with
  | nil => exact (Memory.wfFrom_cons init low a v []).2 ⟨hl, ha, hv, rfl⟩
  | cons e m ih =>
    obtain ⟨k, w⟩ := e
    have h' := (Memory.wfFrom_cons ..).1 h
    by_cases h1 : a < k
    · simp only [Memory.insert, h1, if_true]
      rw [Memory.wfFrom_cons, Memory.wfFrom_cons]
      exact ⟨hl, ha, hv, by simpa [Memory.above] using h1, h'.2⟩
    · by_cases h2 : a = k
      · subst h2
        simp only [Memory.insert, lt_irrefl, if_true, if_false]
        rw [Memory.wfFrom_cons]
        exact ⟨hl, ha, hv, h'.2.2.2⟩
      · simp only [Memory.insert, h1, h2, if_false]
        rw [Memory.wfFrom_cons]
        refine ⟨h'.1, h'.2.1, h'.2.2.1, ih _ ?_ h'.2.2.2⟩
        simp only [Memory.above, decide_eq_true_eq]
        omega

/-- Every memory operation keeps the canonical form. -/
theorem Memory.wf_write (init : Byte) (a : Nat) (v : Byte) (m : Memory) (ha : a < 65536)
    (h : Memory.wf init m = true) : Memory.wf init (Memory.write init a v m) = true := by
  unfold Memory.write
  split
  · exact Memory.wfFrom_erase init a m none h
  · next hv => exact Memory.wfFrom_insert init a v ha hv m none rfl h

/-- The empty memory of reset is canonical. -/
theorem Memory.wf_nil (init : Byte) : Memory.wf init [] = true := rfl

/-! ### The state's reads and writes -/

theorem State.readByte_eq_of_mem (s t : State) (hm : t.mem = s.mem) (hc : t.cfg = s.cfg) (b : Addr) :
    t.readByte b = s.readByte b := by simp [State.readByte, State.unlisted, hm, hc]

theorem State.readByte_writeByte (s : State) (a b : Addr) (v : Byte) :
    (s.writeByte a v).readByte b = if b = a then v else s.readByte b := by
  have h : (b.toNat = a.toNat) = (b = a) := propext BitVec.toNat_inj
  simp only [State.readByte, State.writeByte, State.unlisted, Memory.read_write, h]

theorem State.unlisted_writeByte (s : State) (a : Addr) (v : Byte) : (s.writeByte a v).unlisted = s.unlisted := rfl

@[simp] theorem State.readByte_setA (s : State) (v : Byte) (b : Addr) : (s.setA v).readByte b = s.readByte b := rfl
@[simp] theorem State.readByte_setX (s : State) (v : Byte) (b : Addr) : (s.setX v).readByte b = s.readByte b := rfl
@[simp] theorem State.readByte_setY (s : State) (v : Byte) (b : Addr) : (s.setY v).readByte b = s.readByte b := rfl
@[simp] theorem State.readByte_setSp (s : State) (v : Byte) (b : Addr) : (s.setSp v).readByte b = s.readByte b := rfl
@[simp] theorem State.readByte_setPc (s : State) (t b : Addr) : (s.setPc t).readByte b = s.readByte b := rfl
@[simp] theorem State.readByte_setFlags (s : State) (f : Flags) (b : Addr) :
    (s.setFlags f).readByte b = s.readByte b := rfl
@[simp] theorem State.readByte_setZN (s : State) (v : Byte) (b : Addr) : (s.setZN v).readByte b = s.readByte b := rfl
@[simp] theorem State.readByte_completed (s : State) (len cost : Nat) (b : Addr) :
    (s.completed len cost).readByte b = s.readByte b := rfl
@[simp] theorem State.readByte_halting (s : State) (b : Addr) : s.halting.readByte b = s.readByte b := rfl
@[simp] theorem State.readByte_raiseDiag (s : State) (d : Diag) (b : Addr) :
    (s.raiseDiag d).readByte b = s.readByte b := rfl
@[simp] theorem State.readByte_afterPull (s : State) (b : Addr) : s.afterPull.readByte b = s.readByte b := rfl

end Sys2Proof.Machine
end

