-- ==== Sys2Proof/Laws/Ops.lean ====
section
/-!
SUPPORT. What each shared operation can do, said once: the stack, the trap and its return, and the shapes of an
instruction.
-/
namespace Sys2Proof.Machine

/-! ### The stack -/

theorem stackAddr_toNat (sp : Byte) : (stackAddr sp).toNat = 0x100 + sp.toNat := by
  have := sp.isLt
  have h : (0x0100 : Addr).toNat = 0x100 := rfl
  simp only [stackAddr, BitVec.toNat_add, zext16_toNat, h]
  omega

theorem stackAddr_inj {p q : Byte} : stackAddr p = stackAddr q ↔ p = q := by
  rw [← BitVec.toNat_inj, ← BitVec.toNat_inj, stackAddr_toNat, stackAddr_toNat]
  omega

/-- The vectors are not stack bytes. -/
theorem ne_stackAddr_of_large {a : Addr} (h : 0x200 ≤ a.toNat) (sp : Byte) : a ≠ stackAddr sp := by
  intro he
  have h1 := stackAddr_toNat sp
  have := sp.isLt
  rw [he] at h
  omega

theorem State.readByte_push (s : State) (v : Byte) (b : Addr) :
    (s.push v).readByte b = if b = stackAddr s.sp then v else s.readByte b := by
  simp [State.push, State.readByte_writeByte]

theorem State.push16_eq (s : State) (w : Addr) : s.push16 w = (s.push (hi w)).push (lo w) := rfl

@[simp] theorem State.push16_sp (s : State) (w : Addr) : (s.push16 w).sp = s.sp - 2 := by
  simp [State.push16, BitVec.sub_sub]

@[simp] theorem State.push16_a (s : State) (w : Addr) : (s.push16 w).a = s.a := rfl
@[simp] theorem State.push16_x (s : State) (w : Addr) : (s.push16 w).x = s.x := rfl
@[simp] theorem State.push16_y (s : State) (w : Addr) : (s.push16 w).y = s.y := rfl
@[simp] theorem State.push16_flags (s : State) (w : Addr) : (s.push16 w).flags = s.flags := rfl
@[simp] theorem State.push16_pc (s : State) (w : Addr) : (s.push16 w).pc = s.pc := rfl
@[simp] theorem State.push16_cyc (s : State) (w : Addr) : (s.push16 w).cyc = s.cyc := rfl
@[simp] theorem State.push16_remaining (s : State) (w : Addr) : (s.push16 w).remaining = s.remaining := rfl
@[simp] theorem State.push16_outcome (s : State) (w : Addr) : (s.push16 w).outcome = s.outcome := rfl
@[simp] theorem State.push16_diags (s : State) (w : Addr) : (s.push16 w).diags = s.diags := rfl
@[simp] theorem State.push16_cfg (s : State) (w : Addr) : (s.push16 w).cfg = s.cfg := rfl

theorem State.readByte_push16 (s : State) (w : Addr) (b : Addr) :
    (s.push16 w).readByte b =
      if b = stackAddr (s.sp - 1) then lo w else if b = stackAddr s.sp then hi w else s.readByte b := by
  simp [State.push16, State.readByte_push]

@[simp] theorem State.afterPull16_sp (s : State) : s.afterPull16.sp = s.sp + 2 := by
  simp [State.afterPull16, BitVec.add_assoc]

@[simp] theorem State.afterPull16_a (s : State) : s.afterPull16.a = s.a := rfl
@[simp] theorem State.afterPull16_x (s : State) : s.afterPull16.x = s.x := rfl
@[simp] theorem State.afterPull16_y (s : State) : s.afterPull16.y = s.y := rfl
@[simp] theorem State.afterPull16_flags (s : State) : s.afterPull16.flags = s.flags := rfl
@[simp] theorem State.afterPull16_pc (s : State) : s.afterPull16.pc = s.pc := rfl
@[simp] theorem State.afterPull16_cyc (s : State) : s.afterPull16.cyc = s.cyc := rfl
@[simp] theorem State.afterPull16_remaining (s : State) : s.afterPull16.remaining = s.remaining := rfl
@[simp] theorem State.afterPull16_outcome (s : State) : s.afterPull16.outcome = s.outcome := rfl
@[simp] theorem State.afterPull16_diags (s : State) : s.afterPull16.diags = s.diags := rfl
@[simp] theorem State.afterPull16_cfg (s : State) : s.afterPull16.cfg = s.cfg := rfl
@[simp] theorem State.afterPull16_mem (s : State) : s.afterPull16.mem = s.mem := rfl

theorem State.pulled_eq (s : State) : s.pulled = s.readByte (stackAddr (s.sp + 1)) := rfl

theorem State.pulled16_eq (s : State) :
    s.pulled16 = word (s.readByte (stackAddr (s.sp + 2))) (s.readByte (stackAddr (s.sp + 1))) := by
  simp [State.pulled16, State.pulled, BitVec.add_assoc]

/-! ### The trap and its return, field by field -/

@[simp] theorem State.takeBreak_a (s : State) : s.takeBreak.a = s.a := by simp [State.takeBreak]
@[simp] theorem State.takeBreak_x (s : State) : s.takeBreak.x = s.x := by simp [State.takeBreak]
@[simp] theorem State.takeBreak_y (s : State) : s.takeBreak.y = s.y := by simp [State.takeBreak]
@[simp] theorem State.takeBreak_cyc (s : State) : s.takeBreak.cyc = s.cyc + 7 := by simp [State.takeBreak]
@[simp] theorem State.takeBreak_remaining (s : State) :
    s.takeBreak.remaining = s.remaining.map fun r => r - 7 := by simp [State.takeBreak]
@[simp] theorem State.takeBreak_outcome (s : State) : s.takeBreak.outcome = .cont := by simp [State.takeBreak]
@[simp] theorem State.takeBreak_diags (s : State) : s.takeBreak.diags = s.diags := by simp [State.takeBreak]
@[simp] theorem State.returnFromBreak_cyc (s : State) : s.returnFromBreak.cyc = s.cyc + 6 := by
  simp [State.returnFromBreak]
@[simp] theorem State.returnFromBreak_remaining (s : State) :
    s.returnFromBreak.remaining = s.remaining.map fun r => r - 6 := by simp [State.returnFromBreak]
@[simp] theorem State.returnFromBreak_outcome (s : State) : s.returnFromBreak.outcome = .cont := by
  simp [State.returnFromBreak]
@[simp] theorem State.returnFromBreak_diags (s : State) : s.returnFromBreak.diags = s.diags := by
  simp [State.returnFromBreak]
@[simp] theorem State.returnFromBreak_cfg (s : State) : s.returnFromBreak.cfg = s.cfg := by
  simp [State.returnFromBreak]
@[simp] theorem State.returnFromBreak_a (s : State) : s.returnFromBreak.a = s.a := by simp [State.returnFromBreak]
@[simp] theorem State.returnFromBreak_x (s : State) : s.returnFromBreak.x = s.x := by simp [State.returnFromBreak]
@[simp] theorem State.returnFromBreak_y (s : State) : s.returnFromBreak.y = s.y := by simp [State.returnFromBreak]
@[simp] theorem State.returnFromBreak_mem (s : State) : s.returnFromBreak.mem = s.mem := by simp [State.returnFromBreak]

theorem State.takeBreak_sp (s : State) : s.takeBreak.sp = s.sp - 3 := by
  simp [State.takeBreak, BitVec.sub_sub]

theorem State.takeBreak_flags (s : State) :
    s.takeBreak.flags = { s.flags with b := true, i := s.flags.i || s.cfg.brkSetsI } := by
  simp [State.takeBreak, State.push16, Flags.masked, Flags.withBreak]

@[simp] theorem State.takeBreak_cfg (s : State) : s.takeBreak.cfg = s.cfg := by
  simp [State.takeBreak]

theorem State.readByte_takeBreak (s : State) (b : Addr) :
    s.takeBreak.readByte b =
      if b = stackAddr (s.sp - 2) then encodeStatus s.flags.withBreak
      else if b = stackAddr (s.sp - 1) then lo s.brkReturnAddr
      else if b = stackAddr s.sp then hi s.brkReturnAddr else s.readByte b := by
  simp [State.takeBreak, State.readByte_push, State.readByte_push16]
  rfl

theorem State.takeBreak_pc (s : State) :
    s.takeBreak.pc = word (s.readByte (brkVector + 1)) (s.readByte brkVector) := by
  have h1 : ∀ p, brkVector + 1#16 ≠ stackAddr p := ne_stackAddr_of_large (by decide)
  have h2 : ∀ p, brkVector ≠ stackAddr p := ne_stackAddr_of_large (by decide)
  simp [State.takeBreak, State.read16, State.readByte_push, State.readByte_push16, h1, h2]

theorem State.returnFromBreak_flags (s : State) :
    s.returnFromBreak.flags = decodeStatus (s.readByte (stackAddr (s.sp + 1))) := by
  simp [State.returnFromBreak, State.afterPull16, State.pulled]

theorem State.returnFromBreak_sp (s : State) : s.returnFromBreak.sp = s.sp + 3 := by
  simp [State.returnFromBreak, BitVec.add_assoc]

theorem State.returnFromBreak_pc (s : State) :
    s.returnFromBreak.pc =
      word (s.readByte (stackAddr (s.sp + 3))) (s.readByte (stackAddr (s.sp + 2))) := by
  simp [State.returnFromBreak, State.pulled16_eq, BitVec.add_assoc]

/-! ### Every operation that writes memory keeps its canonical form -/

theorem State.wf_writeByte {s : State} (a : Addr) (v : Byte) (h : Memory.wf s.cfg.memInit s.mem = true) :
    Memory.wf s.cfg.memInit (s.writeByte a v).mem = true :=
  Memory.wf_write _ _ _ _ a.isLt h

theorem State.wf_push {s : State} (v : Byte) (h : Memory.wf s.cfg.memInit s.mem = true) :
    Memory.wf s.cfg.memInit (s.push v).mem = true :=
  State.wf_writeByte _ v h

theorem State.wf_push16 {s : State} (w : Addr) (h : Memory.wf s.cfg.memInit s.mem = true) :
    Memory.wf s.cfg.memInit (s.push16 w).mem = true := by
  have h1 : Memory.wf (s.push (hi w)).cfg.memInit (s.push (hi w)).mem = true := State.wf_push (hi w) h
  exact State.wf_push (lo w) h1

theorem State.wf_takeBreak {s : State} (h : Memory.wf s.cfg.memInit s.mem = true) :
    Memory.wf s.cfg.memInit s.takeBreak.mem = true := by
  simp only [State.takeBreak, State.setPc_mem, State.setFlags_mem]
  exact State.wf_push (s := ((s.completed 1 7).setFlags s.flags.withBreak).push16 s.brkReturnAddr) _
    (State.wf_push16 (s := (s.completed 1 7).setFlags s.flags.withBreak) _ h)

theorem wf_writeOperand {s : State} (l : Loc) (v : Byte) (h : Memory.wf s.cfg.memInit s.mem = true) :
    Memory.wf s.cfg.memInit (writeOperand l v s).mem = true := by
  cases l with
  | mem a => exact State.wf_writeByte a v h
  | imm _ => exact h
  | acc => exact h

/-! ### The shapes of an instruction: the one state each can answer -/

theorem readClass_next {o : Operand} {base : Nat} {f : Byte → State → State} {s t : State} :
    readClass o base f s = .next t ↔ t = f (operandValue o s) (s.completed o.length (base + pageBonus o s)) := by
  simp [readClass, eq_comm]

theorem storeClass_next {o : Operand} {base : Nat} {v : Byte} {s t : State} :
    storeClass o base v s = .next t ↔ t = writeOperand (resolve o s).loc v (s.completed o.length base) := by
  simp [storeClass, eq_comm]

theorem modifyClass_next {o : Operand} {base : Nat} {r : Byte} {f : Flags} {s t : State} :
    modifyClass o base r f s = .next t ↔
      t = writeOperand (resolve o s).loc r ((s.completed o.length base).setFlags f) := by
  simp [modifyClass, eq_comm]

theorem implied_next {f : State → State} {s t : State} : implied f s = .next t ↔ t = f (s.completed 1 2) := by
  simp [implied, eq_comm]

theorem branch_next {cond : Bool} {rel : Byte} {s t : State} :
    branch cond rel s = .next t ↔
      t = if cond then
            (s.completed 2 (2 + (1 + bit (pageCross (s.pc + 2) (branchTarget rel (s.pc + 2)))))).setPc
              (branchTarget rel (s.pc + 2))
          else s.completed 2 2 := by
  cases cond <;> simp [branch, eq_comm]

/-- ADC and SBC answer a next state exactly when they are not refused. -/
theorem adc_next {o : Operand} {base : Nat} {s t : State} :
    adc o base s = .next t ↔ ¬ DecimalRefused s ∧
      t = ((s.completed o.length (base + pageBonus o s)).setA (aluAdd s.a (operandValue o s) s.flags.c).r).setFlags
        (s.flags.setAlu (aluAdd s.a (operandValue o s) s.flags.c)) := by
  unfold adc
  split
  · next h => simp [DecimalRefused, h]
  · next h => rw [readClass_next]; simp [DecimalRefused, h]

theorem sbc_next {o : Operand} {base : Nat} {s t : State} :
    sbc o base s = .next t ↔ ¬ DecimalRefused s ∧
      t = ((s.completed o.length (base + pageBonus o s)).setA (aluSub s.a (operandValue o s) s.flags.c).r).setFlags
        (s.flags.setAlu (aluSub s.a (operandValue o s) s.flags.c)) := by
  unfold sbc
  split
  · next h => simp [DecimalRefused, h]
  · next h => rw [readClass_next]; simp [DecimalRefused, h]

/-- What a location's write leaves at an address. -/
theorem readByte_writeOperand (l : Loc) (v : Byte) (s : State) (b : Addr) :
    (writeOperand l v s).readByte b = if b ∈ locBytes l then v else s.readByte b := by
  cases l <;> simp [writeOperand, locBytes, State.readByte_writeByte]

/-- Only the accumulator's location is a register: a write to any location leaves X, Y, SP, PC, the flags and the rest. -/
@[simp] theorem writeOperand_x (l : Loc) (v : Byte) (s : State) : (writeOperand l v s).x = s.x := by cases l <;> rfl
@[simp] theorem writeOperand_y (l : Loc) (v : Byte) (s : State) : (writeOperand l v s).y = s.y := by cases l <;> rfl
@[simp] theorem writeOperand_sp (l : Loc) (v : Byte) (s : State) : (writeOperand l v s).sp = s.sp := by cases l <;> rfl
@[simp] theorem writeOperand_pc (l : Loc) (v : Byte) (s : State) : (writeOperand l v s).pc = s.pc := by cases l <;> rfl
@[simp] theorem writeOperand_flags (l : Loc) (v : Byte) (s : State) :
    (writeOperand l v s).flags = s.flags := by cases l <;> rfl
@[simp] theorem writeOperand_cyc (l : Loc) (v : Byte) (s : State) : (writeOperand l v s).cyc = s.cyc := by cases l <;> rfl
@[simp] theorem writeOperand_remaining (l : Loc) (v : Byte) (s : State) :
    (writeOperand l v s).remaining = s.remaining := by cases l <;> rfl
@[simp] theorem writeOperand_outcome (l : Loc) (v : Byte) (s : State) :
    (writeOperand l v s).outcome = s.outcome := by cases l <;> rfl
@[simp] theorem writeOperand_diags (l : Loc) (v : Byte) (s : State) :
    (writeOperand l v s).diags = s.diags := by cases l <;> rfl
@[simp] theorem writeOperand_cfg (l : Loc) (v : Byte) (s : State) : (writeOperand l v s).cfg = s.cfg := by cases l <;> rfl

end Sys2Proof.Machine
end

