-- ==== Sys2Proof/Laws/Exec.lean ====
section
/-!
SUPPORT. What `exec` does with each instruction, one equation per constructor, true by rfl. The meanings of the table's
rows are themselves simp definitions, so `simp` takes `exec` of an instruction to the shared operations.
-/
namespace Sys2Proof.Machine

@[simp] theorem exec_adcImm (imm : Byte) (s : State) : exec (.adcImm imm) s = execAdcImm imm s := rfl
@[simp] theorem exec_adcZp (zp : Byte) (s : State) : exec (.adcZp zp) s = execAdcZp zp s := rfl
@[simp] theorem exec_adcZpX (zp : Byte) (s : State) : exec (.adcZpX zp) s = execAdcZpX zp s := rfl
@[simp] theorem exec_adcAbs (addr : Addr) (s : State) : exec (.adcAbs addr) s = execAdcAbs addr s := rfl
@[simp] theorem exec_adcAbsX (addr : Addr) (s : State) : exec (.adcAbsX addr) s = execAdcAbsX addr s := rfl
@[simp] theorem exec_adcAbsY (addr : Addr) (s : State) : exec (.adcAbsY addr) s = execAdcAbsY addr s := rfl
@[simp] theorem exec_adcIndX (zp : Byte) (s : State) : exec (.adcIndX zp) s = execAdcIndX zp s := rfl
@[simp] theorem exec_adcIndY (zp : Byte) (s : State) : exec (.adcIndY zp) s = execAdcIndY zp s := rfl
@[simp] theorem exec_sbcImm (imm : Byte) (s : State) : exec (.sbcImm imm) s = execSbcImm imm s := rfl
@[simp] theorem exec_sbcZp (zp : Byte) (s : State) : exec (.sbcZp zp) s = execSbcZp zp s := rfl
@[simp] theorem exec_sbcZpX (zp : Byte) (s : State) : exec (.sbcZpX zp) s = execSbcZpX zp s := rfl
@[simp] theorem exec_sbcAbs (addr : Addr) (s : State) : exec (.sbcAbs addr) s = execSbcAbs addr s := rfl
@[simp] theorem exec_sbcAbsX (addr : Addr) (s : State) : exec (.sbcAbsX addr) s = execSbcAbsX addr s := rfl
@[simp] theorem exec_sbcAbsY (addr : Addr) (s : State) : exec (.sbcAbsY addr) s = execSbcAbsY addr s := rfl
@[simp] theorem exec_sbcIndX (zp : Byte) (s : State) : exec (.sbcIndX zp) s = execSbcIndX zp s := rfl
@[simp] theorem exec_sbcIndY (zp : Byte) (s : State) : exec (.sbcIndY zp) s = execSbcIndY zp s := rfl
@[simp] theorem exec_cmpImm (imm : Byte) (s : State) : exec (.cmpImm imm) s = execCmpImm imm s := rfl
@[simp] theorem exec_cmpZp (zp : Byte) (s : State) : exec (.cmpZp zp) s = execCmpZp zp s := rfl
@[simp] theorem exec_cmpZpX (zp : Byte) (s : State) : exec (.cmpZpX zp) s = execCmpZpX zp s := rfl
@[simp] theorem exec_cmpAbs (addr : Addr) (s : State) : exec (.cmpAbs addr) s = execCmpAbs addr s := rfl
@[simp] theorem exec_cmpAbsX (addr : Addr) (s : State) : exec (.cmpAbsX addr) s = execCmpAbsX addr s := rfl
@[simp] theorem exec_cmpAbsY (addr : Addr) (s : State) : exec (.cmpAbsY addr) s = execCmpAbsY addr s := rfl
@[simp] theorem exec_cmpIndX (zp : Byte) (s : State) : exec (.cmpIndX zp) s = execCmpIndX zp s := rfl
@[simp] theorem exec_cmpIndY (zp : Byte) (s : State) : exec (.cmpIndY zp) s = execCmpIndY zp s := rfl
@[simp] theorem exec_cpxImm (imm : Byte) (s : State) : exec (.cpxImm imm) s = execCpxImm imm s := rfl
@[simp] theorem exec_cpxZp (zp : Byte) (s : State) : exec (.cpxZp zp) s = execCpxZp zp s := rfl
@[simp] theorem exec_cpxAbs (addr : Addr) (s : State) : exec (.cpxAbs addr) s = execCpxAbs addr s := rfl
@[simp] theorem exec_cpyImm (imm : Byte) (s : State) : exec (.cpyImm imm) s = execCpyImm imm s := rfl
@[simp] theorem exec_cpyZp (zp : Byte) (s : State) : exec (.cpyZp zp) s = execCpyZp zp s := rfl
@[simp] theorem exec_cpyAbs (addr : Addr) (s : State) : exec (.cpyAbs addr) s = execCpyAbs addr s := rfl
@[simp] theorem exec_incZp (zp : Byte) (s : State) : exec (.incZp zp) s = execIncZp zp s := rfl
@[simp] theorem exec_incZpX (zp : Byte) (s : State) : exec (.incZpX zp) s = execIncZpX zp s := rfl
@[simp] theorem exec_incAbs (addr : Addr) (s : State) : exec (.incAbs addr) s = execIncAbs addr s := rfl
@[simp] theorem exec_incAbsX (addr : Addr) (s : State) : exec (.incAbsX addr) s = execIncAbsX addr s := rfl
@[simp] theorem exec_decZp (zp : Byte) (s : State) : exec (.decZp zp) s = execDecZp zp s := rfl
@[simp] theorem exec_decZpX (zp : Byte) (s : State) : exec (.decZpX zp) s = execDecZpX zp s := rfl
@[simp] theorem exec_decAbs (addr : Addr) (s : State) : exec (.decAbs addr) s = execDecAbs addr s := rfl
@[simp] theorem exec_decAbsX (addr : Addr) (s : State) : exec (.decAbsX addr) s = execDecAbsX addr s := rfl
@[simp] theorem exec_inx (s : State) : exec .inx s = execInx s := rfl
@[simp] theorem exec_iny (s : State) : exec .iny s = execIny s := rfl
@[simp] theorem exec_dex (s : State) : exec .dex s = execDex s := rfl
@[simp] theorem exec_dey (s : State) : exec .dey s = execDey s := rfl
@[simp] theorem exec_andImm (imm : Byte) (s : State) : exec (.andImm imm) s = execAndImm imm s := rfl
@[simp] theorem exec_andZp (zp : Byte) (s : State) : exec (.andZp zp) s = execAndZp zp s := rfl
@[simp] theorem exec_andZpX (zp : Byte) (s : State) : exec (.andZpX zp) s = execAndZpX zp s := rfl
@[simp] theorem exec_andAbs (addr : Addr) (s : State) : exec (.andAbs addr) s = execAndAbs addr s := rfl
@[simp] theorem exec_andAbsX (addr : Addr) (s : State) : exec (.andAbsX addr) s = execAndAbsX addr s := rfl
@[simp] theorem exec_andAbsY (addr : Addr) (s : State) : exec (.andAbsY addr) s = execAndAbsY addr s := rfl
@[simp] theorem exec_andIndX (zp : Byte) (s : State) : exec (.andIndX zp) s = execAndIndX zp s := rfl
@[simp] theorem exec_andIndY (zp : Byte) (s : State) : exec (.andIndY zp) s = execAndIndY zp s := rfl
@[simp] theorem exec_eorImm (imm : Byte) (s : State) : exec (.eorImm imm) s = execEorImm imm s := rfl
@[simp] theorem exec_eorZp (zp : Byte) (s : State) : exec (.eorZp zp) s = execEorZp zp s := rfl
@[simp] theorem exec_eorZpX (zp : Byte) (s : State) : exec (.eorZpX zp) s = execEorZpX zp s := rfl
@[simp] theorem exec_eorAbs (addr : Addr) (s : State) : exec (.eorAbs addr) s = execEorAbs addr s := rfl
@[simp] theorem exec_eorAbsX (addr : Addr) (s : State) : exec (.eorAbsX addr) s = execEorAbsX addr s := rfl
@[simp] theorem exec_eorAbsY (addr : Addr) (s : State) : exec (.eorAbsY addr) s = execEorAbsY addr s := rfl
@[simp] theorem exec_eorIndX (zp : Byte) (s : State) : exec (.eorIndX zp) s = execEorIndX zp s := rfl
@[simp] theorem exec_eorIndY (zp : Byte) (s : State) : exec (.eorIndY zp) s = execEorIndY zp s := rfl
@[simp] theorem exec_oraImm (imm : Byte) (s : State) : exec (.oraImm imm) s = execOraImm imm s := rfl
@[simp] theorem exec_oraZp (zp : Byte) (s : State) : exec (.oraZp zp) s = execOraZp zp s := rfl
@[simp] theorem exec_oraZpX (zp : Byte) (s : State) : exec (.oraZpX zp) s = execOraZpX zp s := rfl
@[simp] theorem exec_oraAbs (addr : Addr) (s : State) : exec (.oraAbs addr) s = execOraAbs addr s := rfl
@[simp] theorem exec_oraAbsX (addr : Addr) (s : State) : exec (.oraAbsX addr) s = execOraAbsX addr s := rfl
@[simp] theorem exec_oraAbsY (addr : Addr) (s : State) : exec (.oraAbsY addr) s = execOraAbsY addr s := rfl
@[simp] theorem exec_oraIndX (zp : Byte) (s : State) : exec (.oraIndX zp) s = execOraIndX zp s := rfl
@[simp] theorem exec_oraIndY (zp : Byte) (s : State) : exec (.oraIndY zp) s = execOraIndY zp s := rfl
@[simp] theorem exec_bitZp (zp : Byte) (s : State) : exec (.bitZp zp) s = execBitZp zp s := rfl
@[simp] theorem exec_bitAbs (addr : Addr) (s : State) : exec (.bitAbs addr) s = execBitAbs addr s := rfl
@[simp] theorem exec_ldaImm (imm : Byte) (s : State) : exec (.ldaImm imm) s = execLdaImm imm s := rfl
@[simp] theorem exec_ldaZp (zp : Byte) (s : State) : exec (.ldaZp zp) s = execLdaZp zp s := rfl
@[simp] theorem exec_ldaZpX (zp : Byte) (s : State) : exec (.ldaZpX zp) s = execLdaZpX zp s := rfl
@[simp] theorem exec_ldaAbs (addr : Addr) (s : State) : exec (.ldaAbs addr) s = execLdaAbs addr s := rfl
@[simp] theorem exec_ldaAbsX (addr : Addr) (s : State) : exec (.ldaAbsX addr) s = execLdaAbsX addr s := rfl
@[simp] theorem exec_ldaAbsY (addr : Addr) (s : State) : exec (.ldaAbsY addr) s = execLdaAbsY addr s := rfl
@[simp] theorem exec_ldaIndX (zp : Byte) (s : State) : exec (.ldaIndX zp) s = execLdaIndX zp s := rfl
@[simp] theorem exec_ldaIndY (zp : Byte) (s : State) : exec (.ldaIndY zp) s = execLdaIndY zp s := rfl
@[simp] theorem exec_ldxImm (imm : Byte) (s : State) : exec (.ldxImm imm) s = execLdxImm imm s := rfl
@[simp] theorem exec_ldxZp (zp : Byte) (s : State) : exec (.ldxZp zp) s = execLdxZp zp s := rfl
@[simp] theorem exec_ldxZpY (zp : Byte) (s : State) : exec (.ldxZpY zp) s = execLdxZpY zp s := rfl
@[simp] theorem exec_ldxAbs (addr : Addr) (s : State) : exec (.ldxAbs addr) s = execLdxAbs addr s := rfl
@[simp] theorem exec_ldxAbsY (addr : Addr) (s : State) : exec (.ldxAbsY addr) s = execLdxAbsY addr s := rfl
@[simp] theorem exec_ldyImm (imm : Byte) (s : State) : exec (.ldyImm imm) s = execLdyImm imm s := rfl
@[simp] theorem exec_ldyZp (zp : Byte) (s : State) : exec (.ldyZp zp) s = execLdyZp zp s := rfl
@[simp] theorem exec_ldyZpX (zp : Byte) (s : State) : exec (.ldyZpX zp) s = execLdyZpX zp s := rfl
@[simp] theorem exec_ldyAbs (addr : Addr) (s : State) : exec (.ldyAbs addr) s = execLdyAbs addr s := rfl
@[simp] theorem exec_ldyAbsX (addr : Addr) (s : State) : exec (.ldyAbsX addr) s = execLdyAbsX addr s := rfl
@[simp] theorem exec_staZp (zp : Byte) (s : State) : exec (.staZp zp) s = execStaZp zp s := rfl
@[simp] theorem exec_staZpX (zp : Byte) (s : State) : exec (.staZpX zp) s = execStaZpX zp s := rfl
@[simp] theorem exec_staAbs (addr : Addr) (s : State) : exec (.staAbs addr) s = execStaAbs addr s := rfl
@[simp] theorem exec_staAbsX (addr : Addr) (s : State) : exec (.staAbsX addr) s = execStaAbsX addr s := rfl
@[simp] theorem exec_staAbsY (addr : Addr) (s : State) : exec (.staAbsY addr) s = execStaAbsY addr s := rfl
@[simp] theorem exec_staIndX (zp : Byte) (s : State) : exec (.staIndX zp) s = execStaIndX zp s := rfl
@[simp] theorem exec_staIndY (zp : Byte) (s : State) : exec (.staIndY zp) s = execStaIndY zp s := rfl
@[simp] theorem exec_stxZp (zp : Byte) (s : State) : exec (.stxZp zp) s = execStxZp zp s := rfl
@[simp] theorem exec_stxZpY (zp : Byte) (s : State) : exec (.stxZpY zp) s = execStxZpY zp s := rfl
@[simp] theorem exec_stxAbs (addr : Addr) (s : State) : exec (.stxAbs addr) s = execStxAbs addr s := rfl
@[simp] theorem exec_styZp (zp : Byte) (s : State) : exec (.styZp zp) s = execStyZp zp s := rfl
@[simp] theorem exec_styZpX (zp : Byte) (s : State) : exec (.styZpX zp) s = execStyZpX zp s := rfl
@[simp] theorem exec_styAbs (addr : Addr) (s : State) : exec (.styAbs addr) s = execStyAbs addr s := rfl
@[simp] theorem exec_tax (s : State) : exec .tax s = execTax s := rfl
@[simp] theorem exec_tay (s : State) : exec .tay s = execTay s := rfl
@[simp] theorem exec_txa (s : State) : exec .txa s = execTxa s := rfl
@[simp] theorem exec_tya (s : State) : exec .tya s = execTya s := rfl
@[simp] theorem exec_tsx (s : State) : exec .tsx s = execTsx s := rfl
@[simp] theorem exec_txs (s : State) : exec .txs s = execTxs s := rfl
@[simp] theorem exec_aslAcc (s : State) : exec .aslAcc s = execAslAcc s := rfl
@[simp] theorem exec_aslZp (zp : Byte) (s : State) : exec (.aslZp zp) s = execAslZp zp s := rfl
@[simp] theorem exec_aslZpX (zp : Byte) (s : State) : exec (.aslZpX zp) s = execAslZpX zp s := rfl
@[simp] theorem exec_aslAbs (addr : Addr) (s : State) : exec (.aslAbs addr) s = execAslAbs addr s := rfl
@[simp] theorem exec_aslAbsX (addr : Addr) (s : State) : exec (.aslAbsX addr) s = execAslAbsX addr s := rfl
@[simp] theorem exec_lsrAcc (s : State) : exec .lsrAcc s = execLsrAcc s := rfl
@[simp] theorem exec_lsrZp (zp : Byte) (s : State) : exec (.lsrZp zp) s = execLsrZp zp s := rfl
@[simp] theorem exec_lsrZpX (zp : Byte) (s : State) : exec (.lsrZpX zp) s = execLsrZpX zp s := rfl
@[simp] theorem exec_lsrAbs (addr : Addr) (s : State) : exec (.lsrAbs addr) s = execLsrAbs addr s := rfl
@[simp] theorem exec_lsrAbsX (addr : Addr) (s : State) : exec (.lsrAbsX addr) s = execLsrAbsX addr s := rfl
@[simp] theorem exec_rolAcc (s : State) : exec .rolAcc s = execRolAcc s := rfl
@[simp] theorem exec_rolZp (zp : Byte) (s : State) : exec (.rolZp zp) s = execRolZp zp s := rfl
@[simp] theorem exec_rolZpX (zp : Byte) (s : State) : exec (.rolZpX zp) s = execRolZpX zp s := rfl
@[simp] theorem exec_rolAbs (addr : Addr) (s : State) : exec (.rolAbs addr) s = execRolAbs addr s := rfl
@[simp] theorem exec_rolAbsX (addr : Addr) (s : State) : exec (.rolAbsX addr) s = execRolAbsX addr s := rfl
@[simp] theorem exec_rorAcc (s : State) : exec .rorAcc s = execRorAcc s := rfl
@[simp] theorem exec_rorZp (zp : Byte) (s : State) : exec (.rorZp zp) s = execRorZp zp s := rfl
@[simp] theorem exec_rorZpX (zp : Byte) (s : State) : exec (.rorZpX zp) s = execRorZpX zp s := rfl
@[simp] theorem exec_rorAbs (addr : Addr) (s : State) : exec (.rorAbs addr) s = execRorAbs addr s := rfl
@[simp] theorem exec_rorAbsX (addr : Addr) (s : State) : exec (.rorAbsX addr) s = execRorAbsX addr s := rfl
@[simp] theorem exec_bcc (rel : Byte) (s : State) : exec (.bcc rel) s = execBcc rel s := rfl
@[simp] theorem exec_bcs (rel : Byte) (s : State) : exec (.bcs rel) s = execBcs rel s := rfl
@[simp] theorem exec_beq (rel : Byte) (s : State) : exec (.beq rel) s = execBeq rel s := rfl
@[simp] theorem exec_bmi (rel : Byte) (s : State) : exec (.bmi rel) s = execBmi rel s := rfl
@[simp] theorem exec_bne (rel : Byte) (s : State) : exec (.bne rel) s = execBne rel s := rfl
@[simp] theorem exec_bpl (rel : Byte) (s : State) : exec (.bpl rel) s = execBpl rel s := rfl
@[simp] theorem exec_bvc (rel : Byte) (s : State) : exec (.bvc rel) s = execBvc rel s := rfl
@[simp] theorem exec_bvs (rel : Byte) (s : State) : exec (.bvs rel) s = execBvs rel s := rfl
@[simp] theorem exec_jmpAbs (addr : Addr) (s : State) : exec (.jmpAbs addr) s = execJmpAbs addr s := rfl
@[simp] theorem exec_jmpInd (ptr : Addr) (s : State) : exec (.jmpInd ptr) s = execJmpInd ptr s := rfl
@[simp] theorem exec_jsr (addr : Addr) (s : State) : exec (.jsr addr) s = execJsr addr s := rfl
@[simp] theorem exec_rts (s : State) : exec .rts s = execRts s := rfl
@[simp] theorem exec_pha (s : State) : exec .pha s = execPha s := rfl
@[simp] theorem exec_php (s : State) : exec .php s = execPhp s := rfl
@[simp] theorem exec_pla (s : State) : exec .pla s = execPla s := rfl
@[simp] theorem exec_plp (s : State) : exec .plp s = execPlp s := rfl
@[simp] theorem exec_brk (s : State) : exec .brk s = execBrk s := rfl
@[simp] theorem exec_rti (s : State) : exec .rti s = execRti s := rfl
@[simp] theorem exec_clc (s : State) : exec .clc s = execClc s := rfl
@[simp] theorem exec_cld (s : State) : exec .cld s = execCld s := rfl
@[simp] theorem exec_cli (s : State) : exec .cli s = execCli s := rfl
@[simp] theorem exec_clv (s : State) : exec .clv s = execClv s := rfl
@[simp] theorem exec_sec (s : State) : exec .sec s = execSec s := rfl
@[simp] theorem exec_sed (s : State) : exec .sed s = execSed s := rfl
@[simp] theorem exec_sei (s : State) : exec .sei s = execSei s := rfl
@[simp] theorem exec_nop (s : State) : exec .nop s = execNop s := rfl
@[simp] theorem exec_hlt (s : State) : exec .hlt s = execHlt s := rfl

theorem exec_unknown_proceed (op : Byte) {s : State} (h : s.cfg.unknown = .proceed) :
    exec (.unknown op) s = .next ((s.completed 1 1).raiseDiag (.unknownOpcode (s.cyc + 1) op)) := by
  simp [exec, execUnknown, h]

theorem exec_unknown_fault (op : Byte) {s : State} (h : s.cfg.unknown = .fault) :
    exec (.unknown op) s = .fault (.unknownOpcode op) := by
  simp [exec, execUnknown, h]

theorem exec_unknown_next {op : Byte} {s t : State} :
    exec (.unknown op) s = .next t ↔ s.cfg.unknown = .proceed ∧
      t = (s.completed 1 1).raiseDiag (.unknownOpcode (s.cyc + 1) op) := by
  cases h : s.cfg.unknown <;> simp [exec, execUnknown, h, eq_comm]

end Sys2Proof.Machine
end

