-- ==== Sys2Proof/Laws/PerInstr.lean ====
section
/-!
SUPPORT. The per-instruction family EncodedLength: the encoder gives a well-formed instruction exactly the bytes its
operand form has (30_encoding.md R60, R69), one lemma per constructor.
-/
namespace Sys2Proof.Laws.EncodedLength

/-- The encoding of `i` has the length of its form, and that is 1, 2 or 3 (30_encoding.md R60, R69). -/
def Statement (i : Instr) : Prop :=
  ∀ halt : Option Byte, i.wf halt = true →
    (encode halt i).length = (Machine.formOf i).length ∧ 1 ≤ (encode halt i).length ∧ (encode halt i).length ≤ 3

theorem length_bounds (f : Form) : 1 ≤ f.length ∧ f.length ≤ 3 := by cases f <;> decide

/-- The bounds follow from the length of the form. -/
theorem ofLength {i : Instr}
    (h : ∀ halt : Option Byte, i.wf halt = true → (encode halt i).length = (Machine.formOf i).length) : Statement i :=
  fun halt hw => ⟨h halt hw, (h halt hw).symm ▸ (length_bounds _).1, (h halt hw).symm ▸ (length_bounds _).2⟩

theorem adcImm (imm : Byte) : Statement (.adcImm imm) := ofLength fun _ _ => rfl
theorem adcZp (zp : Byte) : Statement (.adcZp zp) := ofLength fun _ _ => rfl
theorem adcZpX (zp : Byte) : Statement (.adcZpX zp) := ofLength fun _ _ => rfl
theorem adcAbs (addr : Addr) : Statement (.adcAbs addr) := ofLength fun _ _ => rfl
theorem adcAbsX (addr : Addr) : Statement (.adcAbsX addr) := ofLength fun _ _ => rfl
theorem adcAbsY (addr : Addr) : Statement (.adcAbsY addr) := ofLength fun _ _ => rfl
theorem adcIndX (zp : Byte) : Statement (.adcIndX zp) := ofLength fun _ _ => rfl
theorem adcIndY (zp : Byte) : Statement (.adcIndY zp) := ofLength fun _ _ => rfl
theorem sbcImm (imm : Byte) : Statement (.sbcImm imm) := ofLength fun _ _ => rfl
theorem sbcZp (zp : Byte) : Statement (.sbcZp zp) := ofLength fun _ _ => rfl
theorem sbcZpX (zp : Byte) : Statement (.sbcZpX zp) := ofLength fun _ _ => rfl
theorem sbcAbs (addr : Addr) : Statement (.sbcAbs addr) := ofLength fun _ _ => rfl
theorem sbcAbsX (addr : Addr) : Statement (.sbcAbsX addr) := ofLength fun _ _ => rfl
theorem sbcAbsY (addr : Addr) : Statement (.sbcAbsY addr) := ofLength fun _ _ => rfl
theorem sbcIndX (zp : Byte) : Statement (.sbcIndX zp) := ofLength fun _ _ => rfl
theorem sbcIndY (zp : Byte) : Statement (.sbcIndY zp) := ofLength fun _ _ => rfl
theorem cmpImm (imm : Byte) : Statement (.cmpImm imm) := ofLength fun _ _ => rfl
theorem cmpZp (zp : Byte) : Statement (.cmpZp zp) := ofLength fun _ _ => rfl
theorem cmpZpX (zp : Byte) : Statement (.cmpZpX zp) := ofLength fun _ _ => rfl
theorem cmpAbs (addr : Addr) : Statement (.cmpAbs addr) := ofLength fun _ _ => rfl
theorem cmpAbsX (addr : Addr) : Statement (.cmpAbsX addr) := ofLength fun _ _ => rfl
theorem cmpAbsY (addr : Addr) : Statement (.cmpAbsY addr) := ofLength fun _ _ => rfl
theorem cmpIndX (zp : Byte) : Statement (.cmpIndX zp) := ofLength fun _ _ => rfl
theorem cmpIndY (zp : Byte) : Statement (.cmpIndY zp) := ofLength fun _ _ => rfl
theorem cpxImm (imm : Byte) : Statement (.cpxImm imm) := ofLength fun _ _ => rfl
theorem cpxZp (zp : Byte) : Statement (.cpxZp zp) := ofLength fun _ _ => rfl
theorem cpxAbs (addr : Addr) : Statement (.cpxAbs addr) := ofLength fun _ _ => rfl
theorem cpyImm (imm : Byte) : Statement (.cpyImm imm) := ofLength fun _ _ => rfl
theorem cpyZp (zp : Byte) : Statement (.cpyZp zp) := ofLength fun _ _ => rfl
theorem cpyAbs (addr : Addr) : Statement (.cpyAbs addr) := ofLength fun _ _ => rfl
theorem incZp (zp : Byte) : Statement (.incZp zp) := ofLength fun _ _ => rfl
theorem incZpX (zp : Byte) : Statement (.incZpX zp) := ofLength fun _ _ => rfl
theorem incAbs (addr : Addr) : Statement (.incAbs addr) := ofLength fun _ _ => rfl
theorem incAbsX (addr : Addr) : Statement (.incAbsX addr) := ofLength fun _ _ => rfl
theorem decZp (zp : Byte) : Statement (.decZp zp) := ofLength fun _ _ => rfl
theorem decZpX (zp : Byte) : Statement (.decZpX zp) := ofLength fun _ _ => rfl
theorem decAbs (addr : Addr) : Statement (.decAbs addr) := ofLength fun _ _ => rfl
theorem decAbsX (addr : Addr) : Statement (.decAbsX addr) := ofLength fun _ _ => rfl
theorem inx : Statement .inx := ofLength fun _ _ => rfl
theorem iny : Statement .iny := ofLength fun _ _ => rfl
theorem dex : Statement .dex := ofLength fun _ _ => rfl
theorem dey : Statement .dey := ofLength fun _ _ => rfl
theorem andImm (imm : Byte) : Statement (.andImm imm) := ofLength fun _ _ => rfl
theorem andZp (zp : Byte) : Statement (.andZp zp) := ofLength fun _ _ => rfl
theorem andZpX (zp : Byte) : Statement (.andZpX zp) := ofLength fun _ _ => rfl
theorem andAbs (addr : Addr) : Statement (.andAbs addr) := ofLength fun _ _ => rfl
theorem andAbsX (addr : Addr) : Statement (.andAbsX addr) := ofLength fun _ _ => rfl
theorem andAbsY (addr : Addr) : Statement (.andAbsY addr) := ofLength fun _ _ => rfl
theorem andIndX (zp : Byte) : Statement (.andIndX zp) := ofLength fun _ _ => rfl
theorem andIndY (zp : Byte) : Statement (.andIndY zp) := ofLength fun _ _ => rfl
theorem eorImm (imm : Byte) : Statement (.eorImm imm) := ofLength fun _ _ => rfl
theorem eorZp (zp : Byte) : Statement (.eorZp zp) := ofLength fun _ _ => rfl
theorem eorZpX (zp : Byte) : Statement (.eorZpX zp) := ofLength fun _ _ => rfl
theorem eorAbs (addr : Addr) : Statement (.eorAbs addr) := ofLength fun _ _ => rfl
theorem eorAbsX (addr : Addr) : Statement (.eorAbsX addr) := ofLength fun _ _ => rfl
theorem eorAbsY (addr : Addr) : Statement (.eorAbsY addr) := ofLength fun _ _ => rfl
theorem eorIndX (zp : Byte) : Statement (.eorIndX zp) := ofLength fun _ _ => rfl
theorem eorIndY (zp : Byte) : Statement (.eorIndY zp) := ofLength fun _ _ => rfl
theorem oraImm (imm : Byte) : Statement (.oraImm imm) := ofLength fun _ _ => rfl
theorem oraZp (zp : Byte) : Statement (.oraZp zp) := ofLength fun _ _ => rfl
theorem oraZpX (zp : Byte) : Statement (.oraZpX zp) := ofLength fun _ _ => rfl
theorem oraAbs (addr : Addr) : Statement (.oraAbs addr) := ofLength fun _ _ => rfl
theorem oraAbsX (addr : Addr) : Statement (.oraAbsX addr) := ofLength fun _ _ => rfl
theorem oraAbsY (addr : Addr) : Statement (.oraAbsY addr) := ofLength fun _ _ => rfl
theorem oraIndX (zp : Byte) : Statement (.oraIndX zp) := ofLength fun _ _ => rfl
theorem oraIndY (zp : Byte) : Statement (.oraIndY zp) := ofLength fun _ _ => rfl
theorem bitZp (zp : Byte) : Statement (.bitZp zp) := ofLength fun _ _ => rfl
theorem bitAbs (addr : Addr) : Statement (.bitAbs addr) := ofLength fun _ _ => rfl
theorem ldaImm (imm : Byte) : Statement (.ldaImm imm) := ofLength fun _ _ => rfl
theorem ldaZp (zp : Byte) : Statement (.ldaZp zp) := ofLength fun _ _ => rfl
theorem ldaZpX (zp : Byte) : Statement (.ldaZpX zp) := ofLength fun _ _ => rfl
theorem ldaAbs (addr : Addr) : Statement (.ldaAbs addr) := ofLength fun _ _ => rfl
theorem ldaAbsX (addr : Addr) : Statement (.ldaAbsX addr) := ofLength fun _ _ => rfl
theorem ldaAbsY (addr : Addr) : Statement (.ldaAbsY addr) := ofLength fun _ _ => rfl
theorem ldaIndX (zp : Byte) : Statement (.ldaIndX zp) := ofLength fun _ _ => rfl
theorem ldaIndY (zp : Byte) : Statement (.ldaIndY zp) := ofLength fun _ _ => rfl
theorem ldxImm (imm : Byte) : Statement (.ldxImm imm) := ofLength fun _ _ => rfl
theorem ldxZp (zp : Byte) : Statement (.ldxZp zp) := ofLength fun _ _ => rfl
theorem ldxZpY (zp : Byte) : Statement (.ldxZpY zp) := ofLength fun _ _ => rfl
theorem ldxAbs (addr : Addr) : Statement (.ldxAbs addr) := ofLength fun _ _ => rfl
theorem ldxAbsY (addr : Addr) : Statement (.ldxAbsY addr) := ofLength fun _ _ => rfl
theorem ldyImm (imm : Byte) : Statement (.ldyImm imm) := ofLength fun _ _ => rfl
theorem ldyZp (zp : Byte) : Statement (.ldyZp zp) := ofLength fun _ _ => rfl
theorem ldyZpX (zp : Byte) : Statement (.ldyZpX zp) := ofLength fun _ _ => rfl
theorem ldyAbs (addr : Addr) : Statement (.ldyAbs addr) := ofLength fun _ _ => rfl
theorem ldyAbsX (addr : Addr) : Statement (.ldyAbsX addr) := ofLength fun _ _ => rfl
theorem staZp (zp : Byte) : Statement (.staZp zp) := ofLength fun _ _ => rfl
theorem staZpX (zp : Byte) : Statement (.staZpX zp) := ofLength fun _ _ => rfl
theorem staAbs (addr : Addr) : Statement (.staAbs addr) := ofLength fun _ _ => rfl
theorem staAbsX (addr : Addr) : Statement (.staAbsX addr) := ofLength fun _ _ => rfl
theorem staAbsY (addr : Addr) : Statement (.staAbsY addr) := ofLength fun _ _ => rfl
theorem staIndX (zp : Byte) : Statement (.staIndX zp) := ofLength fun _ _ => rfl
theorem staIndY (zp : Byte) : Statement (.staIndY zp) := ofLength fun _ _ => rfl
theorem stxZp (zp : Byte) : Statement (.stxZp zp) := ofLength fun _ _ => rfl
theorem stxZpY (zp : Byte) : Statement (.stxZpY zp) := ofLength fun _ _ => rfl
theorem stxAbs (addr : Addr) : Statement (.stxAbs addr) := ofLength fun _ _ => rfl
theorem styZp (zp : Byte) : Statement (.styZp zp) := ofLength fun _ _ => rfl
theorem styZpX (zp : Byte) : Statement (.styZpX zp) := ofLength fun _ _ => rfl
theorem styAbs (addr : Addr) : Statement (.styAbs addr) := ofLength fun _ _ => rfl
theorem tax : Statement .tax := ofLength fun _ _ => rfl
theorem tay : Statement .tay := ofLength fun _ _ => rfl
theorem txa : Statement .txa := ofLength fun _ _ => rfl
theorem tya : Statement .tya := ofLength fun _ _ => rfl
theorem tsx : Statement .tsx := ofLength fun _ _ => rfl
theorem txs : Statement .txs := ofLength fun _ _ => rfl
theorem aslAcc : Statement .aslAcc := ofLength fun _ _ => rfl
theorem aslZp (zp : Byte) : Statement (.aslZp zp) := ofLength fun _ _ => rfl
theorem aslZpX (zp : Byte) : Statement (.aslZpX zp) := ofLength fun _ _ => rfl
theorem aslAbs (addr : Addr) : Statement (.aslAbs addr) := ofLength fun _ _ => rfl
theorem aslAbsX (addr : Addr) : Statement (.aslAbsX addr) := ofLength fun _ _ => rfl
theorem lsrAcc : Statement .lsrAcc := ofLength fun _ _ => rfl
theorem lsrZp (zp : Byte) : Statement (.lsrZp zp) := ofLength fun _ _ => rfl
theorem lsrZpX (zp : Byte) : Statement (.lsrZpX zp) := ofLength fun _ _ => rfl
theorem lsrAbs (addr : Addr) : Statement (.lsrAbs addr) := ofLength fun _ _ => rfl
theorem lsrAbsX (addr : Addr) : Statement (.lsrAbsX addr) := ofLength fun _ _ => rfl
theorem rolAcc : Statement .rolAcc := ofLength fun _ _ => rfl
theorem rolZp (zp : Byte) : Statement (.rolZp zp) := ofLength fun _ _ => rfl
theorem rolZpX (zp : Byte) : Statement (.rolZpX zp) := ofLength fun _ _ => rfl
theorem rolAbs (addr : Addr) : Statement (.rolAbs addr) := ofLength fun _ _ => rfl
theorem rolAbsX (addr : Addr) : Statement (.rolAbsX addr) := ofLength fun _ _ => rfl
theorem rorAcc : Statement .rorAcc := ofLength fun _ _ => rfl
theorem rorZp (zp : Byte) : Statement (.rorZp zp) := ofLength fun _ _ => rfl
theorem rorZpX (zp : Byte) : Statement (.rorZpX zp) := ofLength fun _ _ => rfl
theorem rorAbs (addr : Addr) : Statement (.rorAbs addr) := ofLength fun _ _ => rfl
theorem rorAbsX (addr : Addr) : Statement (.rorAbsX addr) := ofLength fun _ _ => rfl
theorem bcc (rel : Byte) : Statement (.bcc rel) := ofLength fun _ _ => rfl
theorem bcs (rel : Byte) : Statement (.bcs rel) := ofLength fun _ _ => rfl
theorem beq (rel : Byte) : Statement (.beq rel) := ofLength fun _ _ => rfl
theorem bmi (rel : Byte) : Statement (.bmi rel) := ofLength fun _ _ => rfl
theorem bne (rel : Byte) : Statement (.bne rel) := ofLength fun _ _ => rfl
theorem bpl (rel : Byte) : Statement (.bpl rel) := ofLength fun _ _ => rfl
theorem bvc (rel : Byte) : Statement (.bvc rel) := ofLength fun _ _ => rfl
theorem bvs (rel : Byte) : Statement (.bvs rel) := ofLength fun _ _ => rfl
theorem jmpAbs (addr : Addr) : Statement (.jmpAbs addr) := ofLength fun _ _ => rfl
theorem jmpInd (ptr : Addr) : Statement (.jmpInd ptr) := ofLength fun _ _ => rfl
theorem jsr (addr : Addr) : Statement (.jsr addr) := ofLength fun _ _ => rfl
theorem rts : Statement .rts := ofLength fun _ _ => rfl
theorem pha : Statement .pha := ofLength fun _ _ => rfl
theorem php : Statement .php := ofLength fun _ _ => rfl
theorem pla : Statement .pla := ofLength fun _ _ => rfl
theorem plp : Statement .plp := ofLength fun _ _ => rfl
theorem brk : Statement .brk := ofLength fun _ _ => rfl
theorem rti : Statement .rti := ofLength fun _ _ => rfl
theorem clc : Statement .clc := ofLength fun _ _ => rfl
theorem cld : Statement .cld := ofLength fun _ _ => rfl
theorem cli : Statement .cli := ofLength fun _ _ => rfl
theorem clv : Statement .clv := ofLength fun _ _ => rfl
theorem sec : Statement .sec := ofLength fun _ _ => rfl
theorem sed : Statement .sed := ofLength fun _ _ => rfl
theorem sei : Statement .sei := ofLength fun _ _ => rfl
theorem nop : Statement .nop := ofLength fun _ _ => rfl

theorem hlt : Statement .hlt := by
  intro halt h
  cases halt with
  | none => simp [Instr.wf] at h
  | some b => exact ⟨rfl, Nat.le_refl 1, Nat.le_add_left 1 2⟩

theorem unknown (op : Byte) : Statement (.unknown op) := ofLength fun _ _ => rfl

end Sys2Proof.Laws.EncodedLength
end

