-- ==== Sys2Proof/Tests/Slice0.lean ====
section
/-!
SUPPORT. The model's own tests: the checks of WellFormed, every row's bytes as spec/opcode_table.json writes them, one
step of the spec's own vectors, and a witness for the hypotheses of each obligation. Every expected value is the spec's.
-/
namespace Sys2Proof.Tests
open Sys2Proof Sys2Proof.Machine

set_option Elab.async false

/-! ### The setting of the spec's vectors -/

/-- The parameters of 95_test_vectors.md: the defaults, with HALT_OPCODE = NONE. -/
def plainParams : Params where
  memInit := 0x69
  haltOpcode := none
  decimal := .binary
  brkReturn := .two
  brkSetsI := true
  unknown := .proceed

/-- HostWrite of a list of bytes. -/
def poke (cells : List (Addr × Byte)) (s : State) : State := cells.foldl (fun t c => hostWrite c.1 c.2 t) s

/-- The start states of 95_test_vectors.md: the code at `at_` and the vector naming it, the listed bytes, then Reset. -/
def start (at_ : Addr) (code : List Byte) (cells : List (Addr × Byte)) : State :=
  hostReset (poke cells (poke [(0xFFFC, lo at_), (0xFFFD, hi at_)] (loadImage at_.toNat code (construct plainParams))))

/-- The step answers a next state, and it satisfies `p`. -/
def completes (s : State) (p : State → Bool) : Bool :=
  match step s with
  | .next t => p t
  | .fault _ => false
  | .refused _ => false

/-- A step that completes answers some next state. -/
theorem next_of_completes {s : State} {p : State → Bool} (h : completes s p = true) :
    ∃ t, step s = .next t ∧ p t = true := by
  unfold completes at h
  split at h
  · next t ht => exact ⟨t, ht, h⟩
  · cases h
  · cases h

/-! ### WellFormed -/

/-- A documented byte is no unknown opcode (30_encoding.md R66). -/
theorem test_wf_unknown_documented : (Instr.unknown 0xA9).wf none = false := by decide

/-- The halt byte is no unknown opcode (30_encoding.md R67). -/
theorem test_wf_unknown_halt : (Instr.unknown 0x02).wf (some 0x02) = false := by decide

/-- With HALT_OPCODE = NONE there is no halt instruction (30_encoding.md R67). -/
theorem test_wf_hlt_none : Instr.hlt.wf none = false := by decide

/-- HALT_OPCODE is an undocumented byte (00_scope.md R6). -/
theorem test_wf_hlt_documented : Instr.hlt.wf (some 0xEA) = false := by decide

/-- The parameters refuse the same byte (00_scope.md R6). -/
theorem test_wf_params : { plainParams with haltOpcode := some 0xEA }.wf = false := by decide

/-- The well-formed halves of the same checks. -/
theorem test_wf_accepts :
    Instr.hlt.wf (some 0x02) = true ∧ (Instr.unknown 0x03).wf (some 0x02) = true ∧ (Instr.unknown 0x02).wf none = true := by
  decide

/-! ### Decoding, from the bits of spec/opcode_table.json -/

/-- HALT_OPCODE and the other undocumented bytes (30_encoding.md R63, R66, R67). -/
theorem test_decode_HLT : decodeBytes (some 0b00000010) [0b00000010, 0xEE] = .ok (.hlt, [0xEE]) := by rfl

theorem test_decode_unknown :
    decodeBytes (some 0b00000010) [0b00000011, 0xEE] = .ok (.unknown 0b00000011, [0xEE]) ∧
    decodeBytes none [0b00000010, 0xEE] = .ok (.unknown 0b00000010, [0xEE]) := by
  exact ⟨rfl, rfl⟩

/-- What is shorter than its form is refused by name. -/
theorem test_decode_truncated :
    decodeBytes none [] = .error .noBytes ∧ decodeBytes none [0xAD, 0x34] = .error (.truncated 0xAD) := by
  exact ⟨rfl, rfl⟩

/-- The bits of a table row are numbered from the opcode byte up, operand bytes above the table's bits are zero. -/
theorem test_table_word :
    decodeTableWord 8 0xAD = some (.ldaAbs 0) ∧ decodeTableWord 24 0x1234AD = some (.ldaAbs 0x1234) := by
  exact ⟨rfl, rfl⟩

/-- An instruction placed for the next fetch is the one the next step runs: here from reset, at 0x6969. -/
theorem test_withFetchWord :
    completes (State.reset.withFetchWord 24 0x1234AD) (fun t => t.a == 0x69 && t.pc == 0x696C && t.cyc == 4) = true := by
  decide +kernel

/-- The encoder writes 16-bit operands low byte first (30_encoding.md R64). -/
theorem test_encode : encode none (.ldaAbs 0x1234) = [0b10101101, 0x34, 0x12] := by rfl

/-- ADC: the bytes of the encoding list of 41_arithmetic.md R109. -/
theorem test_decode_ADC :
    decodeBytes none [0b01101001, 0x34, 0xEE] = .ok (.adcImm 0x34, [0xEE]) ∧
    decodeBytes none [0b01100101, 0x34, 0xEE] = .ok (.adcZp 0x34, [0xEE]) ∧
    decodeBytes none [0b01110101, 0x34, 0xEE] = .ok (.adcZpX 0x34, [0xEE]) ∧
    decodeBytes none [0b01101101, 0x34, 0x12, 0xEE] = .ok (.adcAbs 0x1234, [0xEE]) ∧
    decodeBytes none [0b01111101, 0x34, 0x12, 0xEE] = .ok (.adcAbsX 0x1234, [0xEE]) ∧
    decodeBytes none [0b01111001, 0x34, 0x12, 0xEE] = .ok (.adcAbsY 0x1234, [0xEE]) ∧
    decodeBytes none [0b01100001, 0x34, 0xEE] = .ok (.adcIndX 0x34, [0xEE]) ∧
    decodeBytes none [0b01110001, 0x34, 0xEE] = .ok (.adcIndY 0x34, [0xEE]) := by
  exact ⟨rfl, rfl, rfl, rfl, rfl, rfl, rfl, rfl⟩

/-- SBC: the bytes of the encoding list of 41_arithmetic.md R110. -/
theorem test_decode_SBC :
    decodeBytes none [0b11101001, 0x34, 0xEE] = .ok (.sbcImm 0x34, [0xEE]) ∧
    decodeBytes none [0b11100101, 0x34, 0xEE] = .ok (.sbcZp 0x34, [0xEE]) ∧
    decodeBytes none [0b11110101, 0x34, 0xEE] = .ok (.sbcZpX 0x34, [0xEE]) ∧
    decodeBytes none [0b11101101, 0x34, 0x12, 0xEE] = .ok (.sbcAbs 0x1234, [0xEE]) ∧
    decodeBytes none [0b11111101, 0x34, 0x12, 0xEE] = .ok (.sbcAbsX 0x1234, [0xEE]) ∧
    decodeBytes none [0b11111001, 0x34, 0x12, 0xEE] = .ok (.sbcAbsY 0x1234, [0xEE]) ∧
    decodeBytes none [0b11100001, 0x34, 0xEE] = .ok (.sbcIndX 0x34, [0xEE]) ∧
    decodeBytes none [0b11110001, 0x34, 0xEE] = .ok (.sbcIndY 0x34, [0xEE]) := by
  exact ⟨rfl, rfl, rfl, rfl, rfl, rfl, rfl, rfl⟩

/-- CMP: the bytes of the encoding list of 41_arithmetic.md R111. -/
theorem test_decode_CMP :
    decodeBytes none [0b11001001, 0x34, 0xEE] = .ok (.cmpImm 0x34, [0xEE]) ∧
    decodeBytes none [0b11000101, 0x34, 0xEE] = .ok (.cmpZp 0x34, [0xEE]) ∧
    decodeBytes none [0b11010101, 0x34, 0xEE] = .ok (.cmpZpX 0x34, [0xEE]) ∧
    decodeBytes none [0b11001101, 0x34, 0x12, 0xEE] = .ok (.cmpAbs 0x1234, [0xEE]) ∧
    decodeBytes none [0b11011101, 0x34, 0x12, 0xEE] = .ok (.cmpAbsX 0x1234, [0xEE]) ∧
    decodeBytes none [0b11011001, 0x34, 0x12, 0xEE] = .ok (.cmpAbsY 0x1234, [0xEE]) ∧
    decodeBytes none [0b11000001, 0x34, 0xEE] = .ok (.cmpIndX 0x34, [0xEE]) ∧
    decodeBytes none [0b11010001, 0x34, 0xEE] = .ok (.cmpIndY 0x34, [0xEE]) := by
  exact ⟨rfl, rfl, rfl, rfl, rfl, rfl, rfl, rfl⟩

/-- CPX: the bytes of the encoding list of 41_arithmetic.md R112. -/
theorem test_decode_CPX :
    decodeBytes none [0b11100000, 0x34, 0xEE] = .ok (.cpxImm 0x34, [0xEE]) ∧
    decodeBytes none [0b11100100, 0x34, 0xEE] = .ok (.cpxZp 0x34, [0xEE]) ∧
    decodeBytes none [0b11101100, 0x34, 0x12, 0xEE] = .ok (.cpxAbs 0x1234, [0xEE]) := by
  exact ⟨rfl, rfl, rfl⟩

/-- CPY: the bytes of the encoding list of 41_arithmetic.md R113. -/
theorem test_decode_CPY :
    decodeBytes none [0b11000000, 0x34, 0xEE] = .ok (.cpyImm 0x34, [0xEE]) ∧
    decodeBytes none [0b11000100, 0x34, 0xEE] = .ok (.cpyZp 0x34, [0xEE]) ∧
    decodeBytes none [0b11001100, 0x34, 0x12, 0xEE] = .ok (.cpyAbs 0x1234, [0xEE]) := by
  exact ⟨rfl, rfl, rfl⟩

/-- INC: the bytes of the encoding list of 41_arithmetic.md R114. -/
theorem test_decode_INC :
    decodeBytes none [0b11100110, 0x34, 0xEE] = .ok (.incZp 0x34, [0xEE]) ∧
    decodeBytes none [0b11110110, 0x34, 0xEE] = .ok (.incZpX 0x34, [0xEE]) ∧
    decodeBytes none [0b11101110, 0x34, 0x12, 0xEE] = .ok (.incAbs 0x1234, [0xEE]) ∧
    decodeBytes none [0b11111110, 0x34, 0x12, 0xEE] = .ok (.incAbsX 0x1234, [0xEE]) := by
  exact ⟨rfl, rfl, rfl, rfl⟩

/-- DEC: the bytes of the encoding list of 41_arithmetic.md R115. -/
theorem test_decode_DEC :
    decodeBytes none [0b11000110, 0x34, 0xEE] = .ok (.decZp 0x34, [0xEE]) ∧
    decodeBytes none [0b11010110, 0x34, 0xEE] = .ok (.decZpX 0x34, [0xEE]) ∧
    decodeBytes none [0b11001110, 0x34, 0x12, 0xEE] = .ok (.decAbs 0x1234, [0xEE]) ∧
    decodeBytes none [0b11011110, 0x34, 0x12, 0xEE] = .ok (.decAbsX 0x1234, [0xEE]) := by
  exact ⟨rfl, rfl, rfl, rfl⟩

/-- INX: the bytes of the encoding list of 41_arithmetic.md R116. -/
theorem test_decode_INX :
    decodeBytes none [0b11101000, 0xEE] = .ok (.inx, [0xEE]) := by
  rfl

/-- INY: the bytes of the encoding list of 41_arithmetic.md R117. -/
theorem test_decode_INY :
    decodeBytes none [0b11001000, 0xEE] = .ok (.iny, [0xEE]) := by
  rfl

/-- DEX: the bytes of the encoding list of 41_arithmetic.md R118. -/
theorem test_decode_DEX :
    decodeBytes none [0b11001010, 0xEE] = .ok (.dex, [0xEE]) := by
  rfl

/-- DEY: the bytes of the encoding list of 41_arithmetic.md R119. -/
theorem test_decode_DEY :
    decodeBytes none [0b10001000, 0xEE] = .ok (.dey, [0xEE]) := by
  rfl

/-- AND: the bytes of the encoding list of 42_logic.md R121. -/
theorem test_decode_AND :
    decodeBytes none [0b00101001, 0x34, 0xEE] = .ok (.andImm 0x34, [0xEE]) ∧
    decodeBytes none [0b00100101, 0x34, 0xEE] = .ok (.andZp 0x34, [0xEE]) ∧
    decodeBytes none [0b00110101, 0x34, 0xEE] = .ok (.andZpX 0x34, [0xEE]) ∧
    decodeBytes none [0b00101101, 0x34, 0x12, 0xEE] = .ok (.andAbs 0x1234, [0xEE]) ∧
    decodeBytes none [0b00111101, 0x34, 0x12, 0xEE] = .ok (.andAbsX 0x1234, [0xEE]) ∧
    decodeBytes none [0b00111001, 0x34, 0x12, 0xEE] = .ok (.andAbsY 0x1234, [0xEE]) ∧
    decodeBytes none [0b00100001, 0x34, 0xEE] = .ok (.andIndX 0x34, [0xEE]) ∧
    decodeBytes none [0b00110001, 0x34, 0xEE] = .ok (.andIndY 0x34, [0xEE]) := by
  exact ⟨rfl, rfl, rfl, rfl, rfl, rfl, rfl, rfl⟩

/-- EOR: the bytes of the encoding list of 42_logic.md R122. -/
theorem test_decode_EOR :
    decodeBytes none [0b01001001, 0x34, 0xEE] = .ok (.eorImm 0x34, [0xEE]) ∧
    decodeBytes none [0b01000101, 0x34, 0xEE] = .ok (.eorZp 0x34, [0xEE]) ∧
    decodeBytes none [0b01010101, 0x34, 0xEE] = .ok (.eorZpX 0x34, [0xEE]) ∧
    decodeBytes none [0b01001101, 0x34, 0x12, 0xEE] = .ok (.eorAbs 0x1234, [0xEE]) ∧
    decodeBytes none [0b01011101, 0x34, 0x12, 0xEE] = .ok (.eorAbsX 0x1234, [0xEE]) ∧
    decodeBytes none [0b01011001, 0x34, 0x12, 0xEE] = .ok (.eorAbsY 0x1234, [0xEE]) ∧
    decodeBytes none [0b01000001, 0x34, 0xEE] = .ok (.eorIndX 0x34, [0xEE]) ∧
    decodeBytes none [0b01010001, 0x34, 0xEE] = .ok (.eorIndY 0x34, [0xEE]) := by
  exact ⟨rfl, rfl, rfl, rfl, rfl, rfl, rfl, rfl⟩

/-- ORA: the bytes of the encoding list of 42_logic.md R123. -/
theorem test_decode_ORA :
    decodeBytes none [0b00001001, 0x34, 0xEE] = .ok (.oraImm 0x34, [0xEE]) ∧
    decodeBytes none [0b00000101, 0x34, 0xEE] = .ok (.oraZp 0x34, [0xEE]) ∧
    decodeBytes none [0b00010101, 0x34, 0xEE] = .ok (.oraZpX 0x34, [0xEE]) ∧
    decodeBytes none [0b00001101, 0x34, 0x12, 0xEE] = .ok (.oraAbs 0x1234, [0xEE]) ∧
    decodeBytes none [0b00011101, 0x34, 0x12, 0xEE] = .ok (.oraAbsX 0x1234, [0xEE]) ∧
    decodeBytes none [0b00011001, 0x34, 0x12, 0xEE] = .ok (.oraAbsY 0x1234, [0xEE]) ∧
    decodeBytes none [0b00000001, 0x34, 0xEE] = .ok (.oraIndX 0x34, [0xEE]) ∧
    decodeBytes none [0b00010001, 0x34, 0xEE] = .ok (.oraIndY 0x34, [0xEE]) := by
  exact ⟨rfl, rfl, rfl, rfl, rfl, rfl, rfl, rfl⟩

/-- BIT: the bytes of the encoding list of 42_logic.md R124. -/
theorem test_decode_BIT :
    decodeBytes none [0b00100100, 0x34, 0xEE] = .ok (.bitZp 0x34, [0xEE]) ∧
    decodeBytes none [0b00101100, 0x34, 0x12, 0xEE] = .ok (.bitAbs 0x1234, [0xEE]) := by
  exact ⟨rfl, rfl⟩

/-- LDA: the bytes of the encoding list of 43_load_store_transfer.md R125. -/
theorem test_decode_LDA :
    decodeBytes none [0b10101001, 0x34, 0xEE] = .ok (.ldaImm 0x34, [0xEE]) ∧
    decodeBytes none [0b10100101, 0x34, 0xEE] = .ok (.ldaZp 0x34, [0xEE]) ∧
    decodeBytes none [0b10110101, 0x34, 0xEE] = .ok (.ldaZpX 0x34, [0xEE]) ∧
    decodeBytes none [0b10101101, 0x34, 0x12, 0xEE] = .ok (.ldaAbs 0x1234, [0xEE]) ∧
    decodeBytes none [0b10111101, 0x34, 0x12, 0xEE] = .ok (.ldaAbsX 0x1234, [0xEE]) ∧
    decodeBytes none [0b10111001, 0x34, 0x12, 0xEE] = .ok (.ldaAbsY 0x1234, [0xEE]) ∧
    decodeBytes none [0b10100001, 0x34, 0xEE] = .ok (.ldaIndX 0x34, [0xEE]) ∧
    decodeBytes none [0b10110001, 0x34, 0xEE] = .ok (.ldaIndY 0x34, [0xEE]) := by
  exact ⟨rfl, rfl, rfl, rfl, rfl, rfl, rfl, rfl⟩

/-- LDX: the bytes of the encoding list of 43_load_store_transfer.md R126. -/
theorem test_decode_LDX :
    decodeBytes none [0b10100010, 0x34, 0xEE] = .ok (.ldxImm 0x34, [0xEE]) ∧
    decodeBytes none [0b10100110, 0x34, 0xEE] = .ok (.ldxZp 0x34, [0xEE]) ∧
    decodeBytes none [0b10110110, 0x34, 0xEE] = .ok (.ldxZpY 0x34, [0xEE]) ∧
    decodeBytes none [0b10101110, 0x34, 0x12, 0xEE] = .ok (.ldxAbs 0x1234, [0xEE]) ∧
    decodeBytes none [0b10111110, 0x34, 0x12, 0xEE] = .ok (.ldxAbsY 0x1234, [0xEE]) := by
  exact ⟨rfl, rfl, rfl, rfl, rfl⟩

/-- LDY: the bytes of the encoding list of 43_load_store_transfer.md R127. -/
theorem test_decode_LDY :
    decodeBytes none [0b10100000, 0x34, 0xEE] = .ok (.ldyImm 0x34, [0xEE]) ∧
    decodeBytes none [0b10100100, 0x34, 0xEE] = .ok (.ldyZp 0x34, [0xEE]) ∧
    decodeBytes none [0b10110100, 0x34, 0xEE] = .ok (.ldyZpX 0x34, [0xEE]) ∧
    decodeBytes none [0b10101100, 0x34, 0x12, 0xEE] = .ok (.ldyAbs 0x1234, [0xEE]) ∧
    decodeBytes none [0b10111100, 0x34, 0x12, 0xEE] = .ok (.ldyAbsX 0x1234, [0xEE]) := by
  exact ⟨rfl, rfl, rfl, rfl, rfl⟩

/-- STA: the bytes of the encoding list of 43_load_store_transfer.md R128. -/
theorem test_decode_STA :
    decodeBytes none [0b10000101, 0x34, 0xEE] = .ok (.staZp 0x34, [0xEE]) ∧
    decodeBytes none [0b10010101, 0x34, 0xEE] = .ok (.staZpX 0x34, [0xEE]) ∧
    decodeBytes none [0b10001101, 0x34, 0x12, 0xEE] = .ok (.staAbs 0x1234, [0xEE]) ∧
    decodeBytes none [0b10011101, 0x34, 0x12, 0xEE] = .ok (.staAbsX 0x1234, [0xEE]) ∧
    decodeBytes none [0b10011001, 0x34, 0x12, 0xEE] = .ok (.staAbsY 0x1234, [0xEE]) ∧
    decodeBytes none [0b10000001, 0x34, 0xEE] = .ok (.staIndX 0x34, [0xEE]) ∧
    decodeBytes none [0b10010001, 0x34, 0xEE] = .ok (.staIndY 0x34, [0xEE]) := by
  exact ⟨rfl, rfl, rfl, rfl, rfl, rfl, rfl⟩

/-- STX: the bytes of the encoding list of 43_load_store_transfer.md R129. -/
theorem test_decode_STX :
    decodeBytes none [0b10000110, 0x34, 0xEE] = .ok (.stxZp 0x34, [0xEE]) ∧
    decodeBytes none [0b10010110, 0x34, 0xEE] = .ok (.stxZpY 0x34, [0xEE]) ∧
    decodeBytes none [0b10001110, 0x34, 0x12, 0xEE] = .ok (.stxAbs 0x1234, [0xEE]) := by
  exact ⟨rfl, rfl, rfl⟩

/-- STY: the bytes of the encoding list of 43_load_store_transfer.md R130. -/
theorem test_decode_STY :
    decodeBytes none [0b10000100, 0x34, 0xEE] = .ok (.styZp 0x34, [0xEE]) ∧
    decodeBytes none [0b10010100, 0x34, 0xEE] = .ok (.styZpX 0x34, [0xEE]) ∧
    decodeBytes none [0b10001100, 0x34, 0x12, 0xEE] = .ok (.styAbs 0x1234, [0xEE]) := by
  exact ⟨rfl, rfl, rfl⟩

/-- TAX: the bytes of the encoding list of 43_load_store_transfer.md R131. -/
theorem test_decode_TAX :
    decodeBytes none [0b10101010, 0xEE] = .ok (.tax, [0xEE]) := by
  rfl

/-- TAY: the bytes of the encoding list of 43_load_store_transfer.md R132. -/
theorem test_decode_TAY :
    decodeBytes none [0b10101000, 0xEE] = .ok (.tay, [0xEE]) := by
  rfl

/-- TXA: the bytes of the encoding list of 43_load_store_transfer.md R133. -/
theorem test_decode_TXA :
    decodeBytes none [0b10001010, 0xEE] = .ok (.txa, [0xEE]) := by
  rfl

/-- TYA: the bytes of the encoding list of 43_load_store_transfer.md R134. -/
theorem test_decode_TYA :
    decodeBytes none [0b10011000, 0xEE] = .ok (.tya, [0xEE]) := by
  rfl

/-- TSX: the bytes of the encoding list of 43_load_store_transfer.md R135. -/
theorem test_decode_TSX :
    decodeBytes none [0b10111010, 0xEE] = .ok (.tsx, [0xEE]) := by
  rfl

/-- TXS: the bytes of the encoding list of 43_load_store_transfer.md R136. -/
theorem test_decode_TXS :
    decodeBytes none [0b10011010, 0xEE] = .ok (.txs, [0xEE]) := by
  rfl

/-- ASL: the bytes of the encoding list of 44_shift_rotate.md R137. -/
theorem test_decode_ASL :
    decodeBytes none [0b00001010, 0xEE] = .ok (.aslAcc, [0xEE]) ∧
    decodeBytes none [0b00000110, 0x34, 0xEE] = .ok (.aslZp 0x34, [0xEE]) ∧
    decodeBytes none [0b00010110, 0x34, 0xEE] = .ok (.aslZpX 0x34, [0xEE]) ∧
    decodeBytes none [0b00001110, 0x34, 0x12, 0xEE] = .ok (.aslAbs 0x1234, [0xEE]) ∧
    decodeBytes none [0b00011110, 0x34, 0x12, 0xEE] = .ok (.aslAbsX 0x1234, [0xEE]) := by
  exact ⟨rfl, rfl, rfl, rfl, rfl⟩

/-- LSR: the bytes of the encoding list of 44_shift_rotate.md R138. -/
theorem test_decode_LSR :
    decodeBytes none [0b01001010, 0xEE] = .ok (.lsrAcc, [0xEE]) ∧
    decodeBytes none [0b01000110, 0x34, 0xEE] = .ok (.lsrZp 0x34, [0xEE]) ∧
    decodeBytes none [0b01010110, 0x34, 0xEE] = .ok (.lsrZpX 0x34, [0xEE]) ∧
    decodeBytes none [0b01001110, 0x34, 0x12, 0xEE] = .ok (.lsrAbs 0x1234, [0xEE]) ∧
    decodeBytes none [0b01011110, 0x34, 0x12, 0xEE] = .ok (.lsrAbsX 0x1234, [0xEE]) := by
  exact ⟨rfl, rfl, rfl, rfl, rfl⟩

/-- ROL: the bytes of the encoding list of 44_shift_rotate.md R139. -/
theorem test_decode_ROL :
    decodeBytes none [0b00101010, 0xEE] = .ok (.rolAcc, [0xEE]) ∧
    decodeBytes none [0b00100110, 0x34, 0xEE] = .ok (.rolZp 0x34, [0xEE]) ∧
    decodeBytes none [0b00110110, 0x34, 0xEE] = .ok (.rolZpX 0x34, [0xEE]) ∧
    decodeBytes none [0b00101110, 0x34, 0x12, 0xEE] = .ok (.rolAbs 0x1234, [0xEE]) ∧
    decodeBytes none [0b00111110, 0x34, 0x12, 0xEE] = .ok (.rolAbsX 0x1234, [0xEE]) := by
  exact ⟨rfl, rfl, rfl, rfl, rfl⟩

/-- ROR: the bytes of the encoding list of 44_shift_rotate.md R140. -/
theorem test_decode_ROR :
    decodeBytes none [0b01101010, 0xEE] = .ok (.rorAcc, [0xEE]) ∧
    decodeBytes none [0b01100110, 0x34, 0xEE] = .ok (.rorZp 0x34, [0xEE]) ∧
    decodeBytes none [0b01110110, 0x34, 0xEE] = .ok (.rorZpX 0x34, [0xEE]) ∧
    decodeBytes none [0b01101110, 0x34, 0x12, 0xEE] = .ok (.rorAbs 0x1234, [0xEE]) ∧
    decodeBytes none [0b01111110, 0x34, 0x12, 0xEE] = .ok (.rorAbsX 0x1234, [0xEE]) := by
  exact ⟨rfl, rfl, rfl, rfl, rfl⟩

/-- BCC: the bytes of the encoding list of 45_control.md R142. -/
theorem test_decode_BCC :
    decodeBytes none [0b10010000, 0x34, 0xEE] = .ok (.bcc 0x34, [0xEE]) := by
  rfl

/-- BCS: the bytes of the encoding list of 45_control.md R143. -/
theorem test_decode_BCS :
    decodeBytes none [0b10110000, 0x34, 0xEE] = .ok (.bcs 0x34, [0xEE]) := by
  rfl

/-- BEQ: the bytes of the encoding list of 45_control.md R144. -/
theorem test_decode_BEQ :
    decodeBytes none [0b11110000, 0x34, 0xEE] = .ok (.beq 0x34, [0xEE]) := by
  rfl

/-- BMI: the bytes of the encoding list of 45_control.md R145. -/
theorem test_decode_BMI :
    decodeBytes none [0b00110000, 0x34, 0xEE] = .ok (.bmi 0x34, [0xEE]) := by
  rfl

/-- BNE: the bytes of the encoding list of 45_control.md R146. -/
theorem test_decode_BNE :
    decodeBytes none [0b11010000, 0x34, 0xEE] = .ok (.bne 0x34, [0xEE]) := by
  rfl

/-- BPL: the bytes of the encoding list of 45_control.md R147. -/
theorem test_decode_BPL :
    decodeBytes none [0b00010000, 0x34, 0xEE] = .ok (.bpl 0x34, [0xEE]) := by
  rfl

/-- BVC: the bytes of the encoding list of 45_control.md R148. -/
theorem test_decode_BVC :
    decodeBytes none [0b01010000, 0x34, 0xEE] = .ok (.bvc 0x34, [0xEE]) := by
  rfl

/-- BVS: the bytes of the encoding list of 45_control.md R149. -/
theorem test_decode_BVS :
    decodeBytes none [0b01110000, 0x34, 0xEE] = .ok (.bvs 0x34, [0xEE]) := by
  rfl

/-- JMP: the bytes of the encoding list of 45_control.md R150. -/
theorem test_decode_JMP :
    decodeBytes none [0b01001100, 0x34, 0x12, 0xEE] = .ok (.jmpAbs 0x1234, [0xEE]) ∧
    decodeBytes none [0b01101100, 0x34, 0x12, 0xEE] = .ok (.jmpInd 0x1234, [0xEE]) := by
  exact ⟨rfl, rfl⟩

/-- JSR: the bytes of the encoding list of 45_control.md R151. -/
theorem test_decode_JSR :
    decodeBytes none [0b00100000, 0x34, 0x12, 0xEE] = .ok (.jsr 0x1234, [0xEE]) := by
  rfl

/-- RTS: the bytes of the encoding list of 45_control.md R152. -/
theorem test_decode_RTS :
    decodeBytes none [0b01100000, 0xEE] = .ok (.rts, [0xEE]) := by
  rfl

/-- PHA: the bytes of the encoding list of 46_stack_system.md R155. -/
theorem test_decode_PHA :
    decodeBytes none [0b01001000, 0xEE] = .ok (.pha, [0xEE]) := by
  rfl

/-- PHP: the bytes of the encoding list of 46_stack_system.md R156. -/
theorem test_decode_PHP :
    decodeBytes none [0b00001000, 0xEE] = .ok (.php, [0xEE]) := by
  rfl

/-- PLA: the bytes of the encoding list of 46_stack_system.md R157. -/
theorem test_decode_PLA :
    decodeBytes none [0b01101000, 0xEE] = .ok (.pla, [0xEE]) := by
  rfl

/-- PLP: the bytes of the encoding list of 46_stack_system.md R158. -/
theorem test_decode_PLP :
    decodeBytes none [0b00101000, 0xEE] = .ok (.plp, [0xEE]) := by
  rfl

/-- BRK: the bytes of the encoding list of 46_stack_system.md R159. -/
theorem test_decode_BRK :
    decodeBytes none [0b00000000, 0xEE] = .ok (.brk, [0xEE]) := by
  rfl

/-- RTI: the bytes of the encoding list of 46_stack_system.md R160. -/
theorem test_decode_RTI :
    decodeBytes none [0b01000000, 0xEE] = .ok (.rti, [0xEE]) := by
  rfl

/-- CLC: the bytes of the encoding list of 46_stack_system.md R161. -/
theorem test_decode_CLC :
    decodeBytes none [0b00011000, 0xEE] = .ok (.clc, [0xEE]) := by
  rfl

/-- CLD: the bytes of the encoding list of 46_stack_system.md R162. -/
theorem test_decode_CLD :
    decodeBytes none [0b11011000, 0xEE] = .ok (.cld, [0xEE]) := by
  rfl

/-- CLI: the bytes of the encoding list of 46_stack_system.md R163. -/
theorem test_decode_CLI :
    decodeBytes none [0b01011000, 0xEE] = .ok (.cli, [0xEE]) := by
  rfl

/-- CLV: the bytes of the encoding list of 46_stack_system.md R164. -/
theorem test_decode_CLV :
    decodeBytes none [0b10111000, 0xEE] = .ok (.clv, [0xEE]) := by
  rfl

/-- SEC: the bytes of the encoding list of 46_stack_system.md R165. -/
theorem test_decode_SEC :
    decodeBytes none [0b00111000, 0xEE] = .ok (.sec, [0xEE]) := by
  rfl

/-- SED: the bytes of the encoding list of 46_stack_system.md R166. -/
theorem test_decode_SED :
    decodeBytes none [0b11111000, 0xEE] = .ok (.sed, [0xEE]) := by
  rfl

/-- SEI: the bytes of the encoding list of 46_stack_system.md R167. -/
theorem test_decode_SEI :
    decodeBytes none [0b01111000, 0xEE] = .ok (.sei, [0xEE]) := by
  rfl

/-- NOP: the bytes of the encoding list of 46_stack_system.md R168. -/
theorem test_decode_NOP :
    decodeBytes none [0b11101010, 0xEE] = .ok (.nop, [0xEE]) := by
  rfl

/-! ### One step, from the spec's derived vectors (95_test_vectors.md, Part 2) -/

/-- 95_test_vectors.md V5 (R109): `ADC #$80`. -/
theorem test_V5_adcImm : completes
    { start 0x0200 [0x69, 0x80] [] with a := 0x80, flags := { clearFlags with c := false } }
    (fun t => t.a == 0x00 && !t.flags.n && t.flags.v && t.flags.z &&
      t.flags.c && t.cyc == 2) = true := by
  decide +kernel

/-- 95_test_vectors.md V7 (R109): `ADC #$01`. -/
theorem test_V7_adcImm : completes
    { start 0x0200 [0x69, 0x01] [] with a := 0x09, flags := { clearFlags with c := false, d := true } }
    (fun t => t.a == 0x0A && !t.flags.n && !t.flags.v && !t.flags.z &&
      !t.flags.c && t.cyc == 2) = true := by
  decide +kernel

/-- 95_test_vectors.md V10 (R110): `SBC #$00`. -/
theorem test_V10_sbcImm : completes
    { start 0x0200 [0xE9, 0x00] [] with a := 0x00, flags := { clearFlags with c := false } }
    (fun t => t.a == 0xFF && t.flags.n && !t.flags.v && !t.flags.z &&
      !t.flags.c && t.cyc == 2) = true := by
  decide +kernel

/-- 95_test_vectors.md V11 (R110): `SBC #$01`. -/
theorem test_V11_sbcImm : completes
    { start 0x0200 [0xE9, 0x01] [] with a := 0x80, flags := { clearFlags with c := true } }
    (fun t => t.a == 0x7F && !t.flags.n && t.flags.v && !t.flags.z &&
      t.flags.c && t.cyc == 2) = true := by
  decide +kernel

/-- 95_test_vectors.md V15 (R111): `CMP #$20`. -/
theorem test_V15_cmpImm : completes
    { start 0x0200 [0xC9, 0x20] [] with a := 0x10 }
    (fun t => t.a == 0x10 && t.flags.n && !t.flags.z && !t.flags.c &&
      t.cyc == 2) = true := by
  decide +kernel

/-- 95_test_vectors.md V18 (R111): `CMP #$01`. -/
theorem test_V18_cmpImm : completes
    { start 0x0200 [0xC9, 0x01] [] with a := 0x80, flags := { clearFlags with v := true } }
    (fun t => t.a == 0x80 && !t.flags.n && t.flags.v && !t.flags.z &&
      t.flags.c && t.cyc == 2) = true := by
  decide +kernel

/-- 95_test_vectors.md V19 (R112): `CPX #$05`. -/
theorem test_V19_cpxImm : completes
    { start 0x0200 [0xE0, 0x05] [] with x := 0x06 }
    (fun t => t.x == 0x06 && !t.flags.n && !t.flags.z && t.flags.c &&
      t.cyc == 2) = true := by
  decide +kernel

/-- 95_test_vectors.md V20 (R113): `CPY $10`. -/
theorem test_V20_cpyZp : completes
    { start 0x0200 [0xC4, 0x10] [(0x0010, 0x01)] with y := 0x00 }
    (fun t => t.y == 0x00 && t.flags.n && !t.flags.z && !t.flags.c &&
      t.cyc == 3) = true := by
  decide +kernel

/-- 95_test_vectors.md V21 (R114): `INC $10`. -/
theorem test_V21_incZp : completes
    { start 0x0200 [0xE6, 0x10] [(0x0010, 0xFF)] with flags := { clearFlags with c := true } }
    (fun t => !t.flags.n && t.flags.z && t.flags.c && t.readByte 0x0010 == 0x00 &&
      t.cyc == 5) = true := by
  decide +kernel

/-- 95_test_vectors.md V22 (R115): `DEC $10`. -/
theorem test_V22_decZp : completes
    (start 0x0200 [0xC6, 0x10] [(0x0010, 0x00)])
    (fun t => t.flags.n && !t.flags.z && !t.flags.c && t.readByte 0x0010 == 0xFF &&
      t.cyc == 5) = true := by
  decide +kernel

/-- 95_test_vectors.md V23 (R114): `INC $12F0,X`. -/
theorem test_V23_incAbsX : completes
    { start 0x0200 [0xFE, 0xF0, 0x12] [(0x1310, 0x7F)] with x := 0x20 }
    (fun t => t.flags.n && !t.flags.z && t.readByte 0x1310 == 0x80 && t.cyc == 7) = true := by
  decide +kernel

/-- 95_test_vectors.md V24 (R116): `INX`. -/
theorem test_V24_inx : completes
    { start 0x0200 [0xE8] [] with x := 0x7F }
    (fun t => t.x == 0x80 && t.flags.n && !t.flags.z && t.cyc == 2) = true := by
  decide +kernel

/-- 95_test_vectors.md V25 (R117): `INY`. -/
theorem test_V25_iny : completes
    { start 0x0200 [0xC8] [] with y := 0xFF }
    (fun t => t.y == 0x00 && !t.flags.n && t.flags.z && t.cyc == 2) = true := by
  decide +kernel

/-- 95_test_vectors.md V26 (R118): `DEX`. -/
theorem test_V26_dex : completes
    { start 0x0200 [0xCA] [] with x := 0x00 }
    (fun t => t.x == 0xFF && t.flags.n && !t.flags.z && t.cyc == 2) = true := by
  decide +kernel

/-- 95_test_vectors.md V27 (R119): `DEY`. -/
theorem test_V27_dey : completes
    { start 0x0200 [0x88] [] with y := 0x01 }
    (fun t => t.y == 0x00 && !t.flags.n && t.flags.z && t.cyc == 2) = true := by
  decide +kernel

/-- 95_test_vectors.md V28 (R121): `AND #$3C`. -/
theorem test_V28_andImm : completes
    { start 0x0200 [0x29, 0x3C] [] with a := 0xF0 }
    (fun t => t.a == 0x30 && !t.flags.n && !t.flags.z && t.cyc == 2) = true := by
  decide +kernel

/-- 95_test_vectors.md V29 (R121): `AND #$00`. -/
theorem test_V29_andImm : completes
    { start 0x0200 [0x29, 0x00] [] with a := 0xFF }
    (fun t => t.a == 0x00 && !t.flags.n && t.flags.z && t.cyc == 2) = true := by
  decide +kernel

/-- 95_test_vectors.md V30 (R122): `EOR #$0F`. -/
theorem test_V30_eorImm : completes
    { start 0x0200 [0x49, 0x0F] [] with a := 0xFF }
    (fun t => t.a == 0xF0 && t.flags.n && !t.flags.z && t.cyc == 2) = true := by
  decide +kernel

/-- 95_test_vectors.md V31 (R122): `EOR #$5A`. -/
theorem test_V31_eorImm : completes
    { start 0x0200 [0x49, 0x5A] [] with a := 0x5A }
    (fun t => t.a == 0x00 && !t.flags.n && t.flags.z && t.cyc == 2) = true := by
  decide +kernel

/-- 95_test_vectors.md V32 (R123): `ORA #$80`. -/
theorem test_V32_oraImm : completes
    { start 0x0200 [0x09, 0x80] [] with a := 0x01 }
    (fun t => t.a == 0x81 && t.flags.n && !t.flags.z && t.cyc == 2) = true := by
  decide +kernel

/-- 95_test_vectors.md V33 (R124): `BIT $40`. -/
theorem test_V33_bitZp : completes
    { start 0x0200 [0x24, 0x40] [(0x0040, 0x41)] with a := 0x01 }
    (fun t => t.a == 0x01 && !t.flags.n && t.flags.v && !t.flags.z &&
      !t.flags.c && t.cyc == 3) = true := by
  decide +kernel

/-- 95_test_vectors.md V34 (R124): `BIT $4000`. -/
theorem test_V34_bitAbs : completes
    { start 0x0200 [0x2C, 0x00, 0x40] [(0x4000, 0xC0)] with a := 0x3F }
    (fun t => t.a == 0x3F && t.flags.n && t.flags.v && t.flags.z &&
      !t.flags.c && t.cyc == 4) = true := by
  decide +kernel

/-- 95_test_vectors.md V35 (R121): `AND ($10),Y`. -/
theorem test_V35_andIndY : completes
    { start 0x0200 [0x31, 0x10] [(0x0010, 0xF8), (0x0011, 0x12), (0x1308, 0x81)] with a := 0xFF, y := 0x10 }
    (fun t => t.a == 0x81 && t.flags.n && !t.flags.z && t.cyc == 6) = true := by
  decide +kernel

/-- 95_test_vectors.md V36 (R125): `LDA #$00`. -/
theorem test_V36_ldaImm : completes
    { start 0x0200 [0xA9, 0x00] [] with a := 0x55 }
    (fun t => t.a == 0x00 && !t.flags.n && t.flags.z && t.cyc == 2) = true := by
  decide +kernel

/-- 95_test_vectors.md V37 (R125): `LDA #$80`. -/
theorem test_V37_ldaImm : completes
    (start 0x0200 [0xA9, 0x80] [])
    (fun t => t.a == 0x80 && t.flags.n && !t.flags.z && t.cyc == 2) = true := by
  decide +kernel

/-- 95_test_vectors.md V38 (R125): `LDA $80,X`. -/
theorem test_V38_ldaZpX : completes
    { start 0x0200 [0xB5, 0x80] [(0x007F, 0x33), (0x017F, 0x44)] with x := 0xFF }
    (fun t => t.a == 0x33 && !t.flags.n && !t.flags.z && t.cyc == 4) = true := by
  decide +kernel

/-- 95_test_vectors.md V39 (R126): `LDX $F0,Y`. -/
theorem test_V39_ldxZpY : completes
    { start 0x0200 [0xB6, 0xF0] [(0x0010, 0x99)] with y := 0x20 }
    (fun t => t.x == 0x99 && t.flags.n && !t.flags.z && t.cyc == 4) = true := by
  decide +kernel

/-- 95_test_vectors.md V40 (R125): `LDA $12F0,X`. -/
theorem test_V40_ldaAbsX : completes
    { start 0x0200 [0xBD, 0xF0, 0x12] [(0x12FF, 0x01)] with x := 0x0F }
    (fun t => t.a == 0x01 && !t.flags.n && !t.flags.z && t.cyc == 4) = true := by
  decide +kernel

/-- 95_test_vectors.md V41 (R125): `LDA $12F0,X`. -/
theorem test_V41_ldaAbsX : completes
    { start 0x0200 [0xBD, 0xF0, 0x12] [(0x1310, 0x02)] with x := 0x20 }
    (fun t => t.a == 0x02 && !t.flags.n && !t.flags.z && t.cyc == 5) = true := by
  decide +kernel

/-- 95_test_vectors.md V42 (R125): `LDA $FFFF,Y`. -/
theorem test_V42_ldaAbsY : completes
    { start 0x0200 [0xB9, 0xFF, 0xFF] [(0x0001, 0x07)] with y := 0x02 }
    (fun t => t.a == 0x07 && !t.flags.n && !t.flags.z && t.cyc == 5) = true := by
  decide +kernel

/-- 95_test_vectors.md V43 (R125): `LDA ($FF,X)`. -/
theorem test_V43_ldaIndX : completes
    { start 0x0200 [0xA1, 0xFF] [(0x00FF, 0x34), (0x0000, 0x12), (0x0100, 0x56), (0x1234, 0x77), (0x5634, 0x88)] with x := 0x00 }
    (fun t => t.a == 0x77 && !t.flags.n && !t.flags.z && t.cyc == 6) = true := by
  decide +kernel

/-- 95_test_vectors.md V44 (R125): `LDA ($FF),Y`. -/
theorem test_V44_ldaIndY : completes
    { start 0x0200 [0xB1, 0xFF] [(0x00FF, 0x34), (0x0000, 0x12), (0x0100, 0x56), (0x1235, 0x66)] with y := 0x01 }
    (fun t => t.a == 0x66 && !t.flags.n && !t.flags.z && t.cyc == 5) = true := by
  decide +kernel

/-- 95_test_vectors.md V45 (R125): `LDA ($20),Y`. -/
theorem test_V45_ldaIndY : completes
    { start 0x0200 [0xB1, 0x20] [(0x0020, 0x01), (0x0021, 0x30), (0x3100, 0x5A)] with y := 0xFF }
    (fun t => t.a == 0x5A && !t.flags.n && !t.flags.z && t.cyc == 6) = true := by
  decide +kernel

/-- 95_test_vectors.md V46 (R128): `STA $12F0,X`. -/
theorem test_V46_staAbsX : completes
    { start 0x0200 [0x9D, 0xF0, 0x12] [] with a := 0xAB, x := 0x20 }
    (fun t => t.readByte 0x1310 == 0xAB && t.cyc == 5) = true := by
  decide +kernel

/-- 95_test_vectors.md V47 (R128): `STA $12F0,X`. -/
theorem test_V47_staAbsX : completes
    { start 0x0200 [0x9D, 0xF0, 0x12] [] with a := 0xAB, x := 0x01 }
    (fun t => t.readByte 0x12F1 == 0xAB && t.cyc == 5) = true := by
  decide +kernel

/-- 95_test_vectors.md V48 (R128): `STA ($20),Y`. -/
theorem test_V48_staIndY : completes
    { start 0x0200 [0x91, 0x20] [(0x0020, 0x01), (0x0021, 0x30)] with a := 0xCD, y := 0xFF }
    (fun t => t.readByte 0x3100 == 0xCD && t.cyc == 6) = true := by
  decide +kernel

/-- 95_test_vectors.md V49 (R129): `STX $FF,Y`. -/
theorem test_V49_stxZpY : completes
    { start 0x0200 [0x96, 0xFF] [] with x := 0x07, y := 0x02 }
    (fun t => t.readByte 0x0001 == 0x07 && t.cyc == 4) = true := by
  decide +kernel

/-- 95_test_vectors.md V50 (R130): `STY $80,X`. -/
theorem test_V50_styZpX : completes
    { start 0x0200 [0x94, 0x80] [] with y := 0x05, x := 0x90 }
    (fun t => t.readByte 0x0010 == 0x05 && t.cyc == 4) = true := by
  decide +kernel

/-- 95_test_vectors.md V51 (R131): `TAX`. -/
theorem test_V51_tax : completes
    { start 0x0200 [0xAA] [] with a := 0x00, x := 0x44 }
    (fun t => t.x == 0x00 && !t.flags.n && t.flags.z && t.cyc == 2) = true := by
  decide +kernel

/-- 95_test_vectors.md V52 (R132): `TAY`. -/
theorem test_V52_tay : completes
    { start 0x0200 [0xA8] [] with a := 0x80 }
    (fun t => t.y == 0x80 && t.flags.n && !t.flags.z && t.cyc == 2) = true := by
  decide +kernel

/-- 95_test_vectors.md V53 (R133): `TXA`. -/
theorem test_V53_txa : completes
    { start 0x0200 [0x8A] [] with x := 0xFE }
    (fun t => t.a == 0xFE && t.flags.n && !t.flags.z && t.cyc == 2) = true := by
  decide +kernel

/-- 95_test_vectors.md V54 (R134): `TYA`. -/
theorem test_V54_tya : completes
    { start 0x0200 [0x98] [] with y := 0x05 }
    (fun t => t.a == 0x05 && !t.flags.n && !t.flags.z && t.cyc == 2) = true := by
  decide +kernel

/-- 95_test_vectors.md V55 (R135): `TSX`. -/
theorem test_V55_tsx : completes
    (start 0x0200 [0xBA] [])
    (fun t => t.x == 0xFF && t.flags.n && !t.flags.z && t.cyc == 2) = true := by
  decide +kernel

/-- 95_test_vectors.md V56 (R136): `TXS`. -/
theorem test_V56_txs : completes
    { start 0x0200 [0x9A] [] with x := 0x00, flags := { clearFlags with z := false, n := true } }
    (fun t => t.sp == 0x00 && t.flags.n && !t.flags.z && t.cyc == 2) = true := by
  decide +kernel

/-- 95_test_vectors.md V57 (R137): `ASL A`. -/
theorem test_V57_aslAcc : completes
    { start 0x0200 [0x0A] [] with a := 0x80 }
    (fun t => t.a == 0x00 && !t.flags.n && t.flags.z && t.flags.c &&
      t.cyc == 2) = true := by
  decide +kernel

/-- 95_test_vectors.md V58 (R137): `ASL A`. -/
theorem test_V58_aslAcc : completes
    { start 0x0200 [0x0A] [] with a := 0x42 }
    (fun t => t.a == 0x84 && t.flags.n && !t.flags.z && !t.flags.c &&
      t.cyc == 2) = true := by
  decide +kernel

/-- 95_test_vectors.md V59 (R138): `LSR A`. -/
theorem test_V59_lsrAcc : completes
    { start 0x0200 [0x4A] [] with a := 0x01 }
    (fun t => t.a == 0x00 && !t.flags.n && t.flags.z && t.flags.c &&
      t.cyc == 2) = true := by
  decide +kernel

/-- 95_test_vectors.md V60 (R138): `LSR $10`. -/
theorem test_V60_lsrZp : completes
    (start 0x0200 [0x46, 0x10] [(0x0010, 0xFF)])
    (fun t => !t.flags.n && !t.flags.z && t.flags.c && t.readByte 0x0010 == 0x7F &&
      t.cyc == 5) = true := by
  decide +kernel

/-- 95_test_vectors.md V61 (R139): `ROL A`. -/
theorem test_V61_rolAcc : completes
    { start 0x0200 [0x2A] [] with a := 0x80, flags := { clearFlags with c := false } }
    (fun t => t.a == 0x00 && !t.flags.n && t.flags.z && t.flags.c &&
      t.cyc == 2) = true := by
  decide +kernel

/-- 95_test_vectors.md V62 (R139): `ROL A`. -/
theorem test_V62_rolAcc : completes
    { start 0x0200 [0x2A] [] with a := 0x00, flags := { clearFlags with c := true } }
    (fun t => t.a == 0x01 && !t.flags.n && !t.flags.z && !t.flags.c &&
      t.cyc == 2) = true := by
  decide +kernel

/-- 95_test_vectors.md V63 (R140): `ROR A`. -/
theorem test_V63_rorAcc : completes
    { start 0x0200 [0x6A] [] with a := 0x01, flags := { clearFlags with c := false } }
    (fun t => t.a == 0x00 && !t.flags.n && t.flags.z && t.flags.c &&
      t.cyc == 2) = true := by
  decide +kernel

/-- 95_test_vectors.md V64 (R140): `ROR A`. -/
theorem test_V64_rorAcc : completes
    { start 0x0200 [0x6A] [] with a := 0x00, flags := { clearFlags with c := true } }
    (fun t => t.a == 0x80 && t.flags.n && !t.flags.z && !t.flags.c &&
      t.cyc == 2) = true := by
  decide +kernel

/-- 95_test_vectors.md V65 (R140): `ROR $1234,X`. -/
theorem test_V65_rorAbsX : completes
    { start 0x0200 [0x7E, 0x34, 0x12] [(0x1300, 0x02)] with x := 0xCC, flags := { clearFlags with c := true } }
    (fun t => t.flags.n && !t.flags.z && !t.flags.c && t.readByte 0x1300 == 0x81 &&
      t.cyc == 7) = true := by
  decide +kernel

/-- 95_test_vectors.md V66 (R142): `BCC +$10`. -/
theorem test_V66_bcc : completes
    { start 0x0200 [0x90, 0x10] [] with flags := { clearFlags with c := true } }
    (fun t => t.pc == 0x0202 && t.cyc == 2) = true := by
  decide +kernel

/-- 95_test_vectors.md V67 (R142): `BCC +$10`. -/
theorem test_V67_bcc : completes
    { start 0x0200 [0x90, 0x10] [] with flags := { clearFlags with c := false } }
    (fun t => t.pc == 0x0212 && t.cyc == 3) = true := by
  decide +kernel

/-- 95_test_vectors.md V68 (R144): `BEQ +$05`. -/
theorem test_V68_beq : completes
    { start 0x02FD [0xF0, 0x05] [] with flags := { clearFlags with z := true } }
    (fun t => t.pc == 0x0304 && t.cyc == 4) = true := by
  decide +kernel

/-- 95_test_vectors.md V69 (R146): `BNE -$06`. -/
theorem test_V69_bne : completes
    { start 0x0208 [0xD0, 0xFA] [] with flags := { clearFlags with z := false } }
    (fun t => t.pc == 0x0204 && t.cyc == 3) = true := by
  decide +kernel

/-- 95_test_vectors.md V70 (R145): `BMI -$10`. -/
theorem test_V70_bmi : completes
    { start 0x0200 [0x30, 0xF0] [] with flags := { clearFlags with n := true } }
    (fun t => t.pc == 0x01F2 && t.cyc == 4) = true := by
  decide +kernel

/-- 95_test_vectors.md V71 (R147): `BPL +$7F`. -/
theorem test_V71_bpl : completes
    { start 0x0100 [0x10, 0x7F] [] with flags := { clearFlags with n := false } }
    (fun t => t.pc == 0x0181 && t.cyc == 3) = true := by
  decide +kernel

/-- 95_test_vectors.md V72 (R148): `BVC -$80`. -/
theorem test_V72_bvc : completes
    { start 0x0280 [0x50, 0x80] [] with flags := { clearFlags with v := false } }
    (fun t => t.pc == 0x0202 && t.cyc == 3) = true := by
  decide +kernel

/-- 95_test_vectors.md V73 (R149): `BVS +$02`. -/
theorem test_V73_bvs : completes
    { start 0x0200 [0x70, 0x02] [] with flags := { clearFlags with v := true } }
    (fun t => t.pc == 0x0204 && t.cyc == 3) = true := by
  decide +kernel

/-- 95_test_vectors.md V74 (R143): `BCS +$00`. -/
theorem test_V74_bcs : completes
    { start 0x0200 [0xB0, 0x00] [] with flags := { clearFlags with c := true } }
    (fun t => t.pc == 0x0202 && t.cyc == 3) = true := by
  decide +kernel

/-- 95_test_vectors.md V75 (R146): `BNE +$7F`. -/
theorem test_V75_bne : completes
    { start 0xFFF0 [0xD0, 0x7F] [] with flags := { clearFlags with z := false } }
    (fun t => t.pc == 0x0071 && t.cyc == 4) = true := by
  decide +kernel

/-- 95_test_vectors.md V76 (R150): `JMP $1234`. -/
theorem test_V76_jmpAbs : completes
    (start 0x0200 [0x4C, 0x34, 0x12] [])
    (fun t => t.pc == 0x1234 && t.cyc == 3) = true := by
  decide +kernel

/-- 95_test_vectors.md V77 (R150): `JMP ($30FF)`. -/
theorem test_V77_jmpInd : completes
    (start 0x0200 [0x6C, 0xFF, 0x30] [(0x30FF, 0x80), (0x3000, 0x40), (0x3100, 0x50)])
    (fun t => t.pc == 0x4080 && t.cyc == 5) = true := by
  decide +kernel

/-- 95_test_vectors.md V78 (R150): `JMP ($3000)`. -/
theorem test_V78_jmpInd : completes
    (start 0x0200 [0x6C, 0x00, 0x30] [(0x3000, 0x80), (0x3001, 0x40)])
    (fun t => t.pc == 0x4080 && t.cyc == 5) = true := by
  decide +kernel

/-- 95_test_vectors.md V79 (R151): `JSR $0310`. -/
theorem test_V79_jsr : completes
    (start 0x0302 [0x20, 0x10, 0x03] [])
    (fun t => t.pc == 0x0310 && t.sp == 0xFD && t.readByte 0x01FF == 0x03 && t.readByte 0x01FE == 0x04 &&
      t.cyc == 6) = true := by
  decide +kernel

/-- 95_test_vectors.md V80 (R151): `JSR $0400`. -/
theorem test_V80_jsr : completes
    { start 0x0300 [0x20, 0x00, 0x04] [] with sp := 0x00 }
    (fun t => t.pc == 0x0400 && t.sp == 0xFE && t.readByte 0x0100 == 0x03 && t.readByte 0x01FF == 0x02 &&
      t.cyc == 6) = true := by
  decide +kernel

/-- 95_test_vectors.md V81 (R152): `RTS`. -/
theorem test_V81_rts : completes
    { start 0x0200 [0x60] [(0x01FE, 0x04), (0x01FF, 0x03)] with sp := 0xFD }
    (fun t => t.pc == 0x0305 && t.sp == 0xFF && t.cyc == 6) = true := by
  decide +kernel

/-- 95_test_vectors.md V82 (R152): `RTS`. -/
theorem test_V82_rts : completes
    { start 0x0200 [0x60] [(0x01FE, 0xFF), (0x01FF, 0xFF)] with sp := 0xFD }
    (fun t => t.pc == 0x0000 && t.sp == 0xFF && t.cyc == 6) = true := by
  decide +kernel

/-- 95_test_vectors.md V83 (R155): `PHA`. -/
theorem test_V83_pha : completes
    { start 0x0200 [0x48] [] with a := 0x42, sp := 0xFD }
    (fun t => t.sp == 0xFC && t.readByte 0x01FD == 0x42 && t.cyc == 3) = true := by
  decide +kernel

/-- 95_test_vectors.md V84 (R155): `PHA`. -/
theorem test_V84_pha : completes
    { start 0x0200 [0x48] [] with a := 0x42, sp := 0x00 }
    (fun t => t.sp == 0xFF && t.readByte 0x0100 == 0x42 && t.cyc == 3) = true := by
  decide +kernel

/-- 95_test_vectors.md V85 (R156): `PHP`. -/
theorem test_V85_php : completes
    (start 0x0200 [0x08] [])
    (fun t => t.sp == 0xFE && t.readByte 0x01FF == 0x20 && t.cyc == 3) = true := by
  decide +kernel

/-- 95_test_vectors.md V86 (R156): `PHP`. -/
theorem test_V86_php : completes
    { start 0x0200 [0x08] [] with flags := { clearFlags with c := true, z := true, b := true } }
    (fun t => t.sp == 0xFE && t.readByte 0x01FF == 0x33 && t.cyc == 3) = true := by
  decide +kernel

/-- 95_test_vectors.md V87 (R157): `PLA`. -/
theorem test_V87_pla : completes
    { start 0x0200 [0x68] [(0x01FD, 0x42)] with sp := 0xFC }
    (fun t => t.a == 0x42 && t.sp == 0xFD && !t.flags.n && !t.flags.z &&
      t.cyc == 4) = true := by
  decide +kernel

/-- 95_test_vectors.md V88 (R157): `PLA`. -/
theorem test_V88_pla : completes
    { start 0x0200 [0x68] [(0x0100, 0x00)] with sp := 0xFF }
    (fun t => t.a == 0x00 && t.sp == 0x00 && !t.flags.n && t.flags.z &&
      t.cyc == 4) = true := by
  decide +kernel

/-- 95_test_vectors.md V89 (R158): `PLP`. -/
theorem test_V89_plp : completes
    { start 0x0200 [0x28] [(0x01FF, 0xC3)] with sp := 0xFE }
    (fun t => t.sp == 0xFF && inspectStatus t == 0xE3 && t.flags.n && t.flags.v &&
      !t.flags.b && !t.flags.d && !t.flags.i && t.flags.z &&
      t.flags.c && t.cyc == 4) = true := by
  decide +kernel

/-- 95_test_vectors.md V90 (R158): `PLP`. -/
theorem test_V90_plp : completes
    { start 0x0200 [0x28] [(0x01FF, 0xFF)] with sp := 0xFE }
    (fun t => inspectStatus t == 0xFF && t.flags.n && t.flags.v && t.flags.b &&
      t.flags.d && t.flags.i && t.flags.z && t.flags.c &&
      t.cyc == 4) = true := by
  decide +kernel

/-- 95_test_vectors.md V92 (R159): `BRK`. -/
theorem test_V92_brk : completes
    { start 0x0301 [0x00] [(0xFFFE, 0x00), (0xFFFF, 0x04)] with flags := { clearFlags with c := true } }
    (fun t => t.pc == 0x0400 && t.sp == 0xFC && inspectStatus t == 0x35 && t.flags.b &&
      t.flags.i && t.readByte 0x01FF == 0x03 && t.readByte 0x01FE == 0x03 && t.readByte 0x01FD == 0x31 &&
      t.cyc == 7) = true := by
  decide +kernel

/-- 95_test_vectors.md V93 (R159): `BRK`. -/
theorem test_V93_brk : completes
    { start 0x0301 [0x00] [(0xFFFE, 0x00), (0xFFFF, 0x04)] with flags := { clearFlags with c := true }, cfg := { plainParams with brkReturn := .one, brkSetsI := false } }
    (fun t => t.pc == 0x0400 && t.sp == 0xFC && inspectStatus t == 0x31 && t.flags.b &&
      !t.flags.i && t.readByte 0x01FF == 0x03 && t.readByte 0x01FE == 0x02 && t.readByte 0x01FD == 0x31 &&
      t.cyc == 7) = true := by
  decide +kernel

/-- 95_test_vectors.md V95 (R160): `RTI`. -/
theorem test_V95_rti : completes
    { start 0x0200 [0x40] [(0x01FD, 0x31), (0x01FE, 0x03), (0x01FF, 0x03)] with sp := 0xFC, flags := { clearFlags with i := true } }
    (fun t => t.pc == 0x0303 && t.sp == 0xFF && inspectStatus t == 0x31 && !t.flags.n &&
      !t.flags.v && t.flags.b && !t.flags.d && !t.flags.i &&
      !t.flags.z && t.flags.c && t.cyc == 6) = true := by
  decide +kernel

/-- 95_test_vectors.md V96 (R161): `CLC`. -/
theorem test_V96_clc : completes
    { start 0x0200 [0x18] [] with flags := { clearFlags with c := true } }
    (fun t => !t.flags.c && t.cyc == 2) = true := by
  decide +kernel

/-- 95_test_vectors.md V97 (R162): `CLD`. -/
theorem test_V97_cld : completes
    { start 0x0200 [0xD8] [] with flags := { clearFlags with d := true } }
    (fun t => !t.flags.d && t.cyc == 2) = true := by
  decide +kernel

/-- 95_test_vectors.md V98 (R163): `CLI`. -/
theorem test_V98_cli : completes
    { start 0x0200 [0x58] [] with flags := { clearFlags with i := true } }
    (fun t => !t.flags.i && t.cyc == 2) = true := by
  decide +kernel

/-- 95_test_vectors.md V99 (R164): `CLV`. -/
theorem test_V99_clv : completes
    { start 0x0200 [0xB8] [] with flags := { clearFlags with v := true } }
    (fun t => !t.flags.v && t.cyc == 2) = true := by
  decide +kernel

/-- 95_test_vectors.md V100 (R165): `SEC`. -/
theorem test_V100_sec : completes
    (start 0x0200 [0x38] [])
    (fun t => t.flags.c && t.cyc == 2) = true := by
  decide +kernel

/-- 95_test_vectors.md V101 (R166): `SED`. -/
theorem test_V101_sed : completes
    (start 0x0200 [0xF8] [])
    (fun t => t.flags.d && t.cyc == 2) = true := by
  decide +kernel

/-- 95_test_vectors.md V102 (R167): `SEI`. -/
theorem test_V102_sei : completes
    (start 0x0200 [0x78] [])
    (fun t => t.flags.i && t.cyc == 2) = true := by
  decide +kernel

/-- 95_test_vectors.md V103 (R168): `NOP`. -/
theorem test_V103_nop : completes
    (start 0x0200 [0xEA] [])
    (fun t => t.pc == 0x0201 && inspectStatus t == 0x20 && t.cyc == 2) = true := by
  decide +kernel

/-- 95_test_vectors.md V104 (R170): `(unknown 0x02)`. -/
theorem test_V104_unknown : completes
    (start 0x0400 [0x02] [])
    (fun t => t.pc == 0x0401 && t.cyc == 1 && t.diags == [.unknownOpcode 1 0x02]) = true := by
  decide +kernel

/-- 95_test_vectors.md V105 (R170): `(unknown 0xFF)`. -/
theorem test_V105_unknown : completes
    (start 0xFFFF [0xFF] [])
    (fun t => t.pc == 0x0000 && t.cyc == 1 && t.diags == [.unknownOpcode 1 0xFF]) = true := by
  decide +kernel

/-! ### The halt, the two policies, Reset and the host (95_test_vectors.md, Part 3) -/

/-- X6: the halt byte 0x02 at 0x0201, with 97 cycles of budget left: the fetch is counted, the budget forced to 0. -/
theorem test_X6_hlt : completes
    { start 0x0201 [0x02, 0xE8] [] with cfg := { plainParams with haltOpcode := some 0x02 }, remaining := some 98 }
    (fun t => t.pc == 0x0202 && t.cyc == 1 && t.remaining == some 0 && t.outcome == .halt && t.diags == []) = true := by
  decide +kernel

/-- X7: the halt is not sticky: the next call runs the INX after it. -/
theorem test_X7_notSticky : completes
    { start 0x0202 [0xE8] [] with x := 0x01, outcome := .halt }
    (fun t => t.pc == 0x0203 && t.x == 0x02 && t.cyc == 2 && t.outcome == .cont) = true := by
  decide +kernel

/-- X10: Reset leaves memory and clears the rest. -/
theorem test_X10_reset :
    let s := hostReset { start 0x0200 [0xA9, 0x77, 0x85, 0x10] [(0x0010, 0x77)] with a := 0x77, pc := 0x0204, cyc := 5 }
    s.a = 0 ∧ s.sp = 0xFF ∧ s.pc = 0x0200 ∧ s.cyc = 0 ∧ inspectStatus s = 0x20 ∧ s.readByte 0x0010 = 0x77 := by
  decide +kernel

/-- X11: on a fresh core both vector bytes are MEM_INIT. -/
theorem test_X11_freshReset : State.reset.pc = 0x6969 := by decide +kernel

/-- X12, its first instruction: the sentinel bytes are ADC #$69. -/
theorem test_X12_sentinel : completes State.reset
    (fun t => t.a == 0x69 && t.pc == 0x696B && t.cyc == 2 && !t.flags.n && !t.flags.v) = true := by
  decide +kernel

/-- X13: the vector is little-endian. -/
theorem test_X13_vector : (hostReset (poke [(0xFFFC, 0x34), (0xFFFD, 0x12)] (construct plainParams))).pc = 0x1234 := by
  decide +kernel

/-- X14: the image load drops what lies past 0xFFFF. -/
theorem test_X14_loadImage :
    let s := loadImage 0xFFFE [0x01, 0x02, 0x03, 0x04] (construct plainParams)
    s.readByte 0xFFFE = 0x01 ∧ s.readByte 0xFFFF = 0x02 ∧ s.readByte 0x0000 = 0x69 ∧ s.readByte 0x0001 = 0x69 := by
  decide +kernel

/-- X15: HostClear. -/
theorem test_X15_hostClear : (hostClear (hostWrite 0x0010 0x55 (construct plainParams))).readByte 0x0010 = 0x69 := by
  decide +kernel

/-- X16: a reversed range is refused; a range of one byte is not (70_reset_and_hazards.md R188). -/
theorem test_X16_inspect :
    inspectRange 0x0010 0x000F (start 0x0200 [] []) = .error (.reversedRange 0x0010 0x000F) ∧
    inspectRange 0x0010 0x0010 (start 0x0200 [] [(0x0010, 0x42)]) = .ok [0x42] := by
  exact ⟨rfl, rfl⟩

/-- X18: DECIMAL_POLICY = refuse refuses ADC while D = 1; SBC alike (41_arithmetic.md R109, R110). -/
def decimalState (op : Byte) : State :=
  { start 0x0200 [op, 0x01] [] with
    flags := { clearFlags with d := true }, cfg := { plainParams with decimal := .refuse } }

theorem test_X18_refuse :
    step (decimalState 0x69) = .refused .decimalMode ∧ step (decimalState 0xE9) = .refused .decimalMode := by
  exact ⟨rfl, rfl⟩

/-- X19: UNKNOWN_OPCODE_POLICY = fault. -/
def faultState : State := { start 0x0200 [0x02] [] with cfg := { plainParams with unknown := .fault } }

theorem test_X19_fault : step faultState = .fault (.unknownOpcode 0x02) := by rfl

/-! ### Witnesses: for each obligation with hypotheses, a state and operands that meet them together -/

/-- The state of most witnesses: `code` at 0x0200. -/
def at200 (code : List Byte) : State := start 0x0200 code []

/-- Bytes that decode to a well-formed instruction: the documented, the halt and the unknown case. -/
theorem witness_DecodeInvertsEncode :
    (Instr.ldaAbs 0xFFFF).wf none = true ∧ Instr.hlt.wf (some 0xFF) = true ∧ (Instr.unknown 0xFF).wf (some 0x02) = true := by
  decide

/-- The first and the last row of the table, and the lowest and the highest undocumented byte, HALT_OPCODE and not. -/
theorem witness_DispatchHasThreeOutcomes :
    (∃ row ∈ opcodeTable, row.opcode = 0x00) ∧ (∃ row ∈ opcodeTable, row.opcode = 0xFE) ∧
    isUndocumented 0x02 = true ∧ isUndocumented 0xFF = true ∧
    decode (some 0xFF) 0xFF 0 0 = .hlt ∧ decode (some 0xFF) 0x02 0 0 = .unknown 0x02 := by
  decide +kernel

/-- Bytes at PC that decode, at PC = 0xFFFF, where the operand bytes wrap. -/
theorem witness_StepRunsDecodedInstruction :
    let s := start 0xFFFF [0xAD] [(0x0000, 0x34), (0x0001, 0x12)]
    decodeBytes s.cfg.haltOpcode [s.readByte s.pc, s.readByte (s.pc + 1), s.readByte (s.pc + 2)] =
      .ok (.ldaAbs 0x1234, []) := by
  rfl

/-- Both ways of not being refused: D = 0 under refuse, and D = 1 under binary. -/
theorem witness_EveryStepCompletes :
    NoModelStop { at200 [0x69] with cfg := { plainParams with decimal := .refuse } } ∧
    NoModelStop { at200 [0x69] with flags := { clearFlags with d := true } } := by
  unfold NoModelStop DecimalRefused; decide +kernel

/-- A step that faults and a step that is refused. -/
theorem witness_OnlyPolicyStops :
    step faultState = .fault (.unknownOpcode 0x02) ∧ step (decimalState 0xE9) = .refused .decimalMode := by
  exact ⟨rfl, rfl⟩

/-- A state that meets the invariant with memory listed, and steps: to a stored byte, and to a byte that goes back to
MEM_INIT. -/
theorem witness_StepKeepsInv :
    (at200 [0x85, 0x10]).Inv ∧ (∃ t, step (at200 [0x85, 0x10]) = .next t) ∧
    { at200 [0x85, 0x10] with a := 0x69 }.Inv ∧ (∃ t, step { at200 [0x85, 0x10] with a := 0x69 } = .next t) := by
  refine ⟨⟨by decide +kernel, by decide +kernel⟩, ?_, ⟨by decide +kernel, by decide +kernel⟩, ?_⟩
  · exact (next_of_completes (p := fun _ => true) (by decide +kernel)).imp fun _ h => h.1
  · exact (next_of_completes (p := fun _ => true) (by decide +kernel)).imp fun _ h => h.1

/-- The halt byte, with a budget running. -/
def haltState : State :=
  { at200 [0x02] with cfg := { plainParams with haltOpcode := some 0x02 }, remaining := some 5 }

/-- A step that returns Continue (the 7-cycle BRK) and one that returns Halt. -/
theorem witness_StepAccountsForItsCycles :
    (∃ t, step (at200 [0x00]) = .next t ∧ t.outcome = .cont ∧ t.cyc = 7) ∧
    (∃ t, step haltState = .next t ∧ t.outcome = .halt ∧ t.cyc = 1) := by
  constructor
  · obtain ⟨t, h, hp⟩ := next_of_completes (s := at200 [0x00])
      (p := fun t => decide (t.outcome = .cont ∧ t.cyc = 7)) (by decide +kernel)
    exact ⟨t, h, of_decide_eq_true hp⟩
  · obtain ⟨t, h, hp⟩ := next_of_completes (s := haltState)
      (p := fun t => decide (t.outcome = .halt ∧ t.cyc = 1)) (by decide +kernel)
    exact ⟨t, h, of_decide_eq_true hp⟩

/-- Rows of each bonus but the branch's: LDA abs,X with the address crossing a page and not, and STA abs,X. -/
theorem witness_CostsMatchTheTable :
    (∃ row ∈ opcodeTable, row.opcode = 0xBD ∧ row.bonus = .pageCross ∧ row.build 0xFF 0x12 = .ldaAbsX 0x12FF) ∧
    (∃ row ∈ opcodeTable, row.opcode = 0x9D ∧ row.bonus = .none ∧ row.build 0xFF 0x12 = .staAbsX 0x12FF) ∧
    (∃ t, exec (.ldaAbsX 0x12FF) { at200 [] with x := 1 } = .next t) ∧
    (∃ t, exec (.ldaAbsX 0x12FF) (at200 []) = .next t) ∧ (∃ t, exec (.staAbsX 0x12FF) (at200 []) = .next t) := by
  refine ⟨⟨⟨0xBD, .absoluteX, 4, .pageCross, fun b1 b2 => .ldaAbsX (word b2 b1)⟩, ?_, rfl, rfl, rfl⟩,
    ⟨⟨0x9D, .absoluteX, 5, .none, fun b1 b2 => .staAbsX (word b2 b1)⟩, ?_, rfl, rfl, rfl⟩, ⟨_, rfl⟩, ⟨_, rfl⟩, ⟨_, rfl⟩⟩
  · simp [opcodeTable, loadStoreRows, ldaRows]
  · simp [opcodeTable, loadStoreRows, staRows]

/-- The step of a documented opcode, of an unknown one, and of the halt. -/
theorem witness_OnlyUnknownOpcodesEmitEvents :
    (∃ t, step (at200 [0xEA]) = .next t ∧ t.diags = []) ∧
    (∃ t, step (at200 [0x02]) = .next t ∧ t.diags = [.unknownOpcode 1 0x02]) ∧
    (∃ t, step haltState = .next t ∧ t.diags = []) := by
  refine ⟨?_, ?_, ?_⟩
  · obtain ⟨t, h, hp⟩ := next_of_completes (s := at200 [0xEA]) (p := fun t => decide (t.diags = [])) (by decide +kernel)
    exact ⟨t, h, of_decide_eq_true hp⟩
  · obtain ⟨t, h, hp⟩ := next_of_completes (s := at200 [0x02])
      (p := fun t => decide (t.diags = [.unknownOpcode 1 0x02])) (by decide +kernel)
    exact ⟨t, h, of_decide_eq_true hp⟩
  · obtain ⟨t, h, hp⟩ := next_of_completes (s := haltState) (p := fun t => decide (t.diags = [])) (by decide +kernel)
    exact ⟨t, h, of_decide_eq_true hp⟩

/-- A step that reads everything but CYC. -/
theorem witness_CycIsNeverRead :
    mnemonicOf (at200 [0xEA]).nextInstr ≠ .unknown ∧ ∃ t, step (at200 [0xEA]) = .next t :=
  ⟨by decide +kernel, (next_of_completes (p := fun _ => true) (by decide +kernel)).imp fun _ h => h.1⟩

/-- An instruction that stores, at the top of memory, and one that does not. -/
theorem witness_OnlyStoredBytesChange :
    (∃ t, exec (.staAbs 0xFFFF) (at200 []) = .next t) ∧ storedBytes (.staAbs 0xFFFF) (at200 []) = [0xFFFF] ∧
    (∃ t, exec (.ldaImm 0) (at200 []) = .next t) ∧ storedBytes (.ldaImm 0) (at200 []) = [] :=
  ⟨⟨_, rfl⟩, rfl, ⟨_, rfl⟩, rfl⟩

/-- A store writes none of A, X, Y and SP. -/
theorem witness_OnlyWritersChangeRegisters :
    (∃ t, exec (.staAbs 0x1234) (at200 []) = .next t) ∧ writesA (.staAbs 0x1234) = false ∧
    writesX (.staAbs 0x1234) = false ∧ writesY (.staAbs 0x1234) = false ∧ writesSp (.staAbs 0x1234) = false :=
  ⟨⟨_, rfl⟩, rfl, rfl, rfl, rfl⟩

/-- TXS writes no flag. -/
theorem witness_OnlyWritersChangeFlags :
    (∃ t, exec .txs (at200 []) = .next t) ∧ writesC .txs = false ∧ writesZN .txs = false ∧ writesV .txs = false ∧
    writesI .txs = false ∧ writesD .txs = false ∧ writesB .txs = false :=
  ⟨⟨_, rfl⟩, rfl, rfl, rfl, rfl, rfl, rfl⟩

/-- Both cases of a read after a write: the byte written, and another one. -/
theorem witness_WriteSetsOneByte :
    ((at200 []).writeByte 0xFFFF 0x42).readByte 0xFFFF = 0x42 ∧ ((at200 []).writeByte 0xFFFF 0x42).readByte 0 = 0x69 := by
  decide +kernel

/-- Two canonical memories with the same bytes: one built by two writes in either order, one byte taken back. -/
theorem witness_CanonicalMemoryIsItsContents :
    let m := Memory.write 0x69 0 1 (Memory.write 0x69 65535 2 [])
    let m' := Memory.write 0x69 7 0x69 (Memory.write 0x69 65535 2 (Memory.write 0x69 7 3 (Memory.write 0x69 0 1 [])))
    Memory.wf 0x69 m = true ∧ Memory.wf 0x69 m' = true ∧
      ∀ a : Addr, Memory.read 0x69 m a.toNat = Memory.read 0x69 m' a.toNat := by
  refine ⟨by decide +kernel, by decide +kernel, fun a => rfl⟩

/-- The pointers on either side of the page-wrap bug: 0x30FF shows it, 0x3000 and 0xFFFE do not. -/
theorem witness_SixteenBitReads :
    (0x30FE : Addr).toNat % 256 ≠ 0xFF ∧ (0xFFFE : Addr).toNat % 256 ≠ 0xFF ∧
    (start 0x0200 [] [(0x30FF, 0x80), (0x3000, 0x40), (0x3100, 0x50)]).read16bug 0x30FF = 0x4080 ∧
    (start 0x0200 [] [(0x30FF, 0x80), (0x3000, 0x40), (0x3100, 0x50)]).read16 0x30FF = 0x5080 := by
  decide +kernel

/-- A wrapped 16-bit read at 0xFFFF and a wrapped zero-page read at 0xFF. -/
theorem witness_SixteenBitReads_wrap :
    (start 0x0200 [] [(0xFFFF, 0x01), (0x0000, 0x02)]).read16 0xFFFF = 0x0201 ∧
    (start 0x0200 [] [(0x00FF, 0x03), (0x0000, 0x04), (0x0100, 0x05)]).read16zp 0xFF = 0x0403 := by
  decide +kernel

/-- ADC and SBC: a row of each, refused and not refused; the last rows are the indirect ones. -/
theorem witness_AdcAddsWithCarry :
    (∃ row ∈ adcRows, row.build 0xFF 0 = .adcImm 0xFF) ∧ (∃ row ∈ adcRows, row.build 0xFF 0 = .adcIndY 0xFF) ∧
    DecimalRefused (decimalState 0x69) ∧ ¬ DecimalRefused (at200 []) := by
  refine ⟨⟨_, .head _, rfl⟩, ⟨⟨0x71, .indirectIndexed, 5, .pageCross, fun b1 _ => .adcIndY b1⟩, ?_, rfl⟩, ?_, ?_⟩
  · simp [adcRows]
  · unfold DecimalRefused; decide +kernel
  · unfold DecimalRefused; decide +kernel

theorem witness_SbcSubtractsWithBorrow :
    (∃ row ∈ sbcRows, row.build 0xFF 0 = .sbcImm 0xFF) ∧ (∃ row ∈ sbcRows, row.build 0xFF 0 = .sbcIndY 0xFF) ∧
    DecimalRefused (decimalState 0xE9) ∧ ¬ DecimalRefused (at200 []) := by
  refine ⟨⟨_, .head _, rfl⟩, ⟨⟨0xF1, .indirectIndexed, 5, .pageCross, fun b1 _ => .sbcIndY b1⟩, ?_, rfl⟩, ?_, ?_⟩
  · simp [sbcRows]
  · unfold DecimalRefused; decide +kernel
  · unfold DecimalRefused; decide +kernel

/-- Each list of rows that the other row claims range over has a row: its first instruction. -/
theorem witness_rows_compare :
    (∃ row ∈ cmpRows, row.build 1 0 = .cmpImm 1) ∧ (∃ row ∈ cpxRows, row.build 1 0 = .cpxImm 1) ∧
    (∃ row ∈ cpyRows, row.build 1 0 = .cpyImm 1) :=
  ⟨⟨_, .head _, rfl⟩, ⟨_, .head _, rfl⟩, ⟨_, .head _, rfl⟩⟩

theorem witness_rows_incDec :
    (∃ row ∈ incRows, row.build 1 0 = .incZp 1) ∧ (∃ row ∈ decRows, row.build 1 0 = .decZp 1) :=
  ⟨⟨_, .head _, rfl⟩, ⟨_, .head _, rfl⟩⟩

theorem witness_rows_logic :
    (∃ row ∈ andRows, row.build 1 0 = .andImm 1) ∧ (∃ row ∈ eorRows, row.build 1 0 = .eorImm 1) ∧
    (∃ row ∈ oraRows, row.build 1 0 = .oraImm 1) ∧ (∃ row ∈ bitRows, row.build 1 0 = .bitZp 1) :=
  ⟨⟨_, .head _, rfl⟩, ⟨_, .head _, rfl⟩, ⟨_, .head _, rfl⟩, ⟨_, .head _, rfl⟩⟩

theorem witness_rows_load :
    (∃ row ∈ ldaRows, row.build 1 0 = .ldaImm 1) ∧ (∃ row ∈ ldxRows, row.build 1 0 = .ldxImm 1) ∧
    (∃ row ∈ ldyRows, row.build 1 0 = .ldyImm 1) :=
  ⟨⟨_, .head _, rfl⟩, ⟨_, .head _, rfl⟩, ⟨_, .head _, rfl⟩⟩

theorem witness_rows_store :
    (∃ row ∈ staRows, row.build 1 0 = .staZp 1) ∧ (∃ row ∈ stxRows, row.build 1 0 = .stxZp 1) ∧
    (∃ row ∈ styRows, row.build 1 0 = .styZp 1) :=
  ⟨⟨_, .head _, rfl⟩, ⟨_, .head _, rfl⟩, ⟨_, .head _, rfl⟩⟩

theorem witness_rows_shift :
    (∃ row ∈ aslRows, row.build 1 0 = .aslAcc) ∧ (∃ row ∈ lsrRows, row.build 1 0 = .lsrAcc) ∧
    (∃ row ∈ rolRows, row.build 1 0 = .rolAcc) ∧ (∃ row ∈ rorRows, row.build 1 0 = .rorAcc) :=
  ⟨⟨_, .head _, rfl⟩, ⟨_, .head _, rfl⟩, ⟨_, .head _, rfl⟩, ⟨_, .head _, rfl⟩⟩

/-- Every branch condition holds in one state and fails in another; the targets: forward and backward, in the page and
across it, and past the end of the address space. -/
theorem witness_BranchesTakeTheirFlag :
    (∀ f : Flags → Bool, f ∈ [Flags.c, Flags.z, Flags.n, Flags.v] →
      (∃ s : State, f s.flags = true) ∧ ∃ s : State, f s.flags = false) ∧
    branchTarget 0x7F 0x0102 = 0x0181 ∧ branchTarget 0x80 0x0282 = 0x0202 ∧ branchTarget 0xF0 0x0202 = 0x01F2 ∧
    branchTarget 0x7F 0xFFF2 = 0x0071 := by
  refine ⟨?_, by decide, by decide, by decide, by decide⟩
  intro f hf
  simp only [List.mem_cons, List.not_mem_nil, or_false] at hf
  rcases hf with rfl | rfl | rfl | rfl
  · exact ⟨⟨{ State.reset with flags := { clearFlags with c := true } }, rfl⟩, ⟨State.reset, rfl⟩⟩
  · exact ⟨⟨{ State.reset with flags := { clearFlags with z := true } }, rfl⟩, ⟨State.reset, rfl⟩⟩
  · exact ⟨⟨{ State.reset with flags := { clearFlags with n := true } }, rfl⟩, ⟨State.reset, rfl⟩⟩
  · exact ⟨⟨{ State.reset with flags := { clearFlags with v := true } }, rfl⟩, ⟨State.reset, rfl⟩⟩

/-- A core with a halt opcode, at either end of its range, and a core with none. -/
theorem witness_HltEndsTheCall :
    haltState.cfg.haltOpcode = some 0x02 ∧ isUndocumented 0x02 = true ∧ isUndocumented 0xFF = true ∧
    (at200 []).cfg.haltOpcode = none := by
  decide +kernel

/-- An undocumented byte that is not HALT_OPCODE, under each policy. -/
theorem witness_UnknownOpcodesAreReported :
    isUndocumented 0x03 = true ∧ haltState.cfg.haltOpcode ≠ some 0x03 ∧ haltState.cfg.unknown = .proceed ∧
    faultState.cfg.unknown = .fault := by
  decide +kernel

/-- Two different cores that agree on the vector. -/
theorem witness_ResetDependsOnlyOnTheVector :
    let s := start 0x1234 [] []
    let s' := { start 0x1234 [] [(0x0010, 0x42)] with a := 1, flags := { clearFlags with n := true }, cyc := 9 }
    s ≠ s' ∧ s.readByte 0xFFFC = s'.readByte 0xFFFC ∧ s.readByte 0xFFFD = s'.readByte 0xFFFD := by
  decide +kernel

/-- The cases of the image load: below the base, at it, the last byte of the image, past it, and at 0xFFFF. -/
theorem witness_HostWritesMemoryOnly :
    let s := loadImage 0xFFFD [0x01, 0x02, 0x03, 0x04] (at200 [])
    s.readByte 0xFFFC = 0x00 ∧ s.readByte 0xFFFD = 0x01 ∧ s.readByte 0xFFFF = 0x03 ∧ s.readByte 0x0000 = 0x69 ∧
    (loadImage 0 [0x01] (at200 [])).readByte 0x0001 = 0x69 ∧ (hostWrite 0 1 (at200 [])).readByte 0 = 1 := by
  decide +kernel

/-- Ranges on either side of the limit: reversed by one, of one byte, and the last two bytes of memory. -/
theorem witness_InspectionReadsBytes :
    (0x000F : Addr).toNat < (0x0010 : Addr).toNat ∧ (0x0010 : Addr).toNat ≤ (0x0010 : Addr).toNat ∧
    inspectRange 0xFFFE 0xFFFF (start 0x0200 [] [(0xFFFE, 1), (0xFFFF, 2)]) = .ok [1, 2] :=
  ⟨by decide, by decide, rfl⟩

/-- Budgets on either side of zero, and a step of each outcome: Continue, Halt, a fault and a refusal. -/
theorem witness_ExecuteIteratesStep :
    (0 : Int) ≤ 0 ∧ (0 : Int) < 1 ∧
    (∃ t, step (at200 [0xEA]) = .next t ∧ t.outcome ≠ .halt) ∧ (∃ t, step haltState = .next t ∧ t.outcome = .halt) ∧
    step faultState = .fault (.unknownOpcode 0x02) ∧ step (decimalState 0x69) = .refused .decimalMode := by
  refine ⟨by decide, by decide, ?_, ?_, rfl, rfl⟩
  · obtain ⟨t, h, hp⟩ := next_of_completes (s := at200 [0xEA]) (p := fun t => decide (t.outcome ≠ .halt)) (by decide +kernel)
    exact ⟨t, h, of_decide_eq_true hp⟩
  · obtain ⟨t, h, hp⟩ := next_of_completes (s := haltState) (p := fun t => decide (t.outcome = .halt)) (by decide +kernel)
    exact ⟨t, h, of_decide_eq_true hp⟩

theorem witness_ExecuteOneIsOneStep : ∃ t, step (at200 [0xEA]) = .next t :=
  (next_of_completes (p := fun _ => true) (by decide +kernel)).imp fun _ h => h.1

end Sys2Proof.Tests
end

namespace Sys2Proof

/-! ### The state after reset: HALT_OPCODE is free, but stays within the range of R6 -/

theorem isUndocumented_iff_mem (b : Byte) : isUndocumented b = true ↔ b ∈ undocumentedBytes :=
  List.contains_iff_mem

@[simp] theorem haltAllowed_none : haltAllowed none = true := rfl

@[simp] theorem haltAllowed_some (h : Byte) : haltAllowed (some h) = isUndocumented h := rfl

/-- The free value selects an entry of the table of R66, so every choice of it is in range. -/
theorem haltAllowed_configHaltOpcode : haltAllowed Config.haltOpcode = true := by
  unfold Config.haltOpcode
  cases Config.haltIndex with
  | none => exact haltAllowed_none
  | some k =>
    rw [Option.map_some, haltAllowed_some, isUndocumented_iff_mem]
    exact List.get_mem _ _

theorem Params.wf_default : Params.default.wf = true := haltAllowed_configHaltOpcode

end Sys2Proof

namespace Sys2Proof.Machine

/-- Settles O9: the empty memory of reset is canonical, and the default parameters are in range whichever byte the free
HALT_OPCODE is. -/
theorem resetMeetsInv : Obligations.ResetMeetsInv :=
  ⟨Memory.wf_nil State.reset.cfg.memInit, Params.wf_default⟩

end Sys2Proof.Machine

namespace Sys2Proof.Machine

/-! ### The packed status byte -/

/-- The byte built bit by bit from the left. -/
theorem encodeStatus_eq_concat (f : Flags) :
    encodeStatus f = (((((((BitVec.ofBool f.n).concat f.v).concat true).concat f.b).concat f.d).concat f.i).concat
      f.z).concat f.c := rfl

theorem toNat_eq_bit (c : Bool) : c.toNat = bit c := by cases c <;> rfl

theorem encodeStatus_toNat (f : Flags) :
    (encodeStatus f).toNat = bit f.n * 0x80 + bit f.v * 0x40 + 0x20 + bit f.b * 0x10 + bit f.d * 0x08 +
      bit f.i * 0x04 + bit f.z * 0x02 + bit f.c := by
  simp only [encodeStatus_eq_concat, BitVec.toNat_concat, BitVec.toNat_ofBool, toNat_eq_bit]
  have h1 : bit true = 1 := rfl
  omega

theorem decodeStatus_encodeStatus (f : Flags) : decodeStatus (encodeStatus f) = f := by
  simp [decodeStatus, encodeStatus_eq_concat, BitVec.getElem_concat]

theorem encodeStatus_decodeStatus (p : Byte) : encodeStatus (decodeStatus p) = p ||| 0x20 := by
  apply BitVec.eq_of_getElem_eq
  intro k hk
  interval_cases k <;> simp [decodeStatus, encodeStatus_eq_concat, BitVec.getElem_concat]

/-- Settles O24: the byte's weights from its bits, and both round trips bit by bit. -/
theorem statusByteLayout : Obligations.StatusByteLayout :=
  ⟨encodeStatus_toNat, fun _ => rfl, decodeStatus_encodeStatus, encodeStatus_decodeStatus⟩

/-! ### Reset -/

theorem encodeStatus_clearFlags : encodeStatus clearFlags = 0x20 := rfl

/-- Settles O54: each field is the one Reset's rule R183 names, and the vector is the two bytes `read16` joins. -/
theorem resetSeedsFromTheVector : Obligations.ResetSeedsFromTheVector := by
  intro s
  have hpc : (hostReset s).pc.toNat = (s.readByte 0xFFFD).toNat * 256 + (s.readByte 0xFFFC).toNat :=
    word_toNat _ _
  exact ⟨hpc, rfl, rfl, rfl, rfl, rfl, rfl, encodeStatus_clearFlags, rfl, rfl⟩

/-! ### Another count of cycles -/

/-- The state with another count of cycles (10_state.md R28). -/
def State.withCyc (s : State) (k : Nat) : State := { s with cyc := k }

/-- `v` takes its value from the state without reading CYC. -/
def CycFree {α : Type} (v : State → α) : Prop := ∀ (s : State) (k : Nat), v (s.withCyc k) = v s

@[simp] theorem resolve_withCyc (o : Operand) (s : State) (k : Nat) : resolve o (s.withCyc k) = resolve o s := by
  cases o <;> rfl

@[simp] theorem operandValue_withCyc (o : Operand) (s : State) (k : Nat) :
    operandValue o (s.withCyc k) = operandValue o s := by
  cases o <;> rfl

@[simp] theorem pageBonus_withCyc (o : Operand) (s : State) (k : Nat) :
    pageBonus o (s.withCyc k) = pageBonus o s := by
  simp [pageBonus]

theorem bit_le_one (c : Bool) : bit c ≤ 1 := by cases c <;> decide

theorem pageBonus_le_one (o : Operand) (s : State) : pageBonus o s ≤ 1 := bit_le_one _

@[simp] theorem State.completed_withCyc (s : State) (k len cost : Nat) :
    (s.withCyc k).completed len cost = (s.completed len cost).withCyc (k + cost) := rfl

@[simp] theorem State.withCyc_a (s : State) (k : Nat) : (s.withCyc k).a = s.a := rfl
@[simp] theorem State.withCyc_pc (s : State) (k : Nat) : (s.withCyc k).pc = s.pc := rfl
@[simp] theorem State.withCyc_flags (s : State) (k : Nat) : (s.withCyc k).flags = s.flags := rfl
@[simp] theorem State.withCyc_cfg (s : State) (k : Nat) : (s.withCyc k).cfg = s.cfg := rfl
@[simp] theorem State.setA_withCyc (s : State) (k : Nat) (v : Byte) : (s.withCyc k).setA v = (s.setA v).withCyc k := rfl
@[simp] theorem State.setPc_withCyc (s : State) (k : Nat) (a : Addr) :
    (s.withCyc k).setPc a = (s.setPc a).withCyc k := rfl
@[simp] theorem State.setFlags_withCyc (s : State) (k : Nat) (f : Flags) :
    (s.withCyc k).setFlags f = (s.setFlags f).withCyc k := rfl
@[simp] theorem State.setZN_withCyc (s : State) (k : Nat) (v : Byte) :
    (s.withCyc k).setZN v = (s.setZN v).withCyc k := rfl
@[simp] theorem State.halting_withCyc (s : State) (k : Nat) : (s.withCyc k).halting = s.halting.withCyc k := rfl
@[simp] theorem State.push_withCyc (s : State) (k : Nat) (v : Byte) : (s.withCyc k).push v = (s.push v).withCyc k := rfl
@[simp] theorem State.push16_withCyc (s : State) (k : Nat) (a : Addr) :
    (s.withCyc k).push16 a = (s.push16 a).withCyc k := rfl
@[simp] theorem State.afterPull_withCyc (s : State) (k : Nat) : (s.withCyc k).afterPull = s.afterPull.withCyc k := rfl
@[simp] theorem State.afterPull16_withCyc (s : State) (k : Nat) :
    (s.withCyc k).afterPull16 = s.afterPull16.withCyc k := rfl
@[simp] theorem State.pulled_withCyc (s : State) (k : Nat) : (s.withCyc k).pulled = s.pulled := rfl
@[simp] theorem State.pulled16_withCyc (s : State) (k : Nat) : (s.withCyc k).pulled16 = s.pulled16 := rfl
@[simp] theorem State.read16_withCyc (s : State) (k : Nat) (a : Addr) : (s.withCyc k).read16 a = s.read16 a := rfl
@[simp] theorem State.brkReturnAddr_withCyc (s : State) (k : Nat) : (s.withCyc k).brkReturnAddr = s.brkReturnAddr := rfl

@[simp] theorem State.takeBreak_withCyc (s : State) (k : Nat) :
    (s.withCyc k).takeBreak = s.takeBreak.withCyc (k + 7) := by
  simp [State.takeBreak]

@[simp] theorem State.returnFromBreak_withCyc (s : State) (k : Nat) :
    (s.withCyc k).returnFromBreak = s.returnFromBreak.withCyc (k + 6) := by
  simp [State.returnFromBreak]

@[simp] theorem writeOperand_withCyc (l : Loc) (v : Byte) (s : State) (k : Nat) :
    writeOperand l v (s.withCyc k) = (writeOperand l v s).withCyc k := by
  cases l <;> rfl

/-- Outside the accumulator mode a location is no register. -/
theorem resolve_loc_ne_acc {o : Operand} (ho : o ≠ .accumulator) (s : State) : (resolve o s).loc ≠ .acc := by
  cases o <;> simp_all [resolve, plain, indexed]

theorem writeOperand_a {l : Loc} (hl : l ≠ .acc) (v : Byte) (s : State) : (writeOperand l v s).a = s.a := by
  cases l with
  | acc => exact absurd rfl hl
  | imm _ => rfl
  | mem _ => rfl

/-! ### The shapes of the instruction set -/

/-- The flags an instruction is no writer of are the same in `f` and `f'` (10_state.md R21). -/
def FlagsKept (i : Instr) (f f' : Flags) : Prop :=
  (writesC i = false → f'.c = f.c) ∧ (writesZN i = false → f'.z = f.z) ∧ (writesZN i = false → f'.n = f.n) ∧
  (writesV i = false → f'.v = f.v) ∧ (writesI i = false → f'.i = f.i) ∧ (writesD i = false → f'.d = f.d) ∧
  (writesB i = false → f'.b = f.b)

/-- `Shape i g`: the instruction `i` runs `g`, one of the operations the instructions share, its base cycles lie in the
range of that operation's rows, and `i` is named as a writer of each register and flag the operation writes. -/
inductive Shape : Instr → (State → Result) → Prop
  | adc {i : Instr} {o : Operand} {base : Nat} (hb : 2 ≤ base ∧ base ≤ 6)
      (ha : writesA i = true) (hc : writesC i = true) (hzn : writesZN i = true) (hv : writesV i = true) :
      Shape i (adc o base)
  | sbc {i : Instr} {o : Operand} {base : Nat} (hb : 2 ≤ base ∧ base ≤ 6)
      (ha : writesA i = true) (hc : writesC i = true) (hzn : writesZN i = true) (hv : writesV i = true) :
      Shape i (sbc o base)
  | compare {i : Instr} {reg : State → Byte} {o : Operand} {base : Nat} (hb : 2 ≤ base ∧ base ≤ 6)
      (hreg : CycFree reg) (hc : writesC i = true) (hzn : writesZN i = true) :
      Shape i (fun s => compareWith (reg s) o base s)
  | combine {i : Instr} {f : Byte → Byte → Byte} {o : Operand} {base : Nat} (hb : 2 ≤ base ∧ base ≤ 6)
      (ha : writesA i = true) (hzn : writesZN i = true) : Shape i (combine f o base)
  | bitTest {i : Instr} {o : Operand} {base : Nat} (hb : 2 ≤ base ∧ base ≤ 6)
      (hzn : writesZN i = true) (hv : writesV i = true) : Shape i (bitTest o base)
  | lda {i : Instr} {o : Operand} {base : Nat} (hb : 2 ≤ base ∧ base ≤ 6)
      (ha : writesA i = true) (hzn : writesZN i = true) : Shape i (lda o base)
  | ldx {i : Instr} {o : Operand} {base : Nat} (hb : 2 ≤ base ∧ base ≤ 6)
      (hx : writesX i = true) (hzn : writesZN i = true) : Shape i (ldx o base)
  | ldy {i : Instr} {o : Operand} {base : Nat} (hb : 2 ≤ base ∧ base ≤ 6)
      (hy : writesY i = true) (hzn : writesZN i = true) : Shape i (ldy o base)
  | store {i : Instr} {reg : State → Byte} {o : Operand} {base : Nat} (hb : 2 ≤ base ∧ base ≤ 7)
      (hreg : CycFree reg) (ho : o ≠ .accumulator) : Shape i (fun s => storeClass o base (reg s) s)
  | step8 {i : Instr} {f : Byte → Byte} {o : Operand} {base : Nat} (hb : 2 ≤ base ∧ base ≤ 7)
      (ho : o ≠ .accumulator) (hzn : writesZN i = true) : Shape i (step8 f o base)
  | shift {i : Instr} {f : Byte → Bool → ShiftOut} {o : Operand} {base : Nat} (hb : 2 ≤ base ∧ base ≤ 7)
      (ha : o ≠ .accumulator ∨ writesA i = true) (hc : writesC i = true) (hzn : writesZN i = true) :
      Shape i (shift f o base)
  | intoA {i : Instr} {v : State → Byte} (hfree : CycFree v) (ha : writesA i = true) (hzn : writesZN i = true) :
      Shape i (implied fun t => (t.setA (v t)).setZN (v t))
  | intoX {i : Instr} {v : State → Byte} (hfree : CycFree v) (hx : writesX i = true) (hzn : writesZN i = true) :
      Shape i (implied fun t => (t.setX (v t)).setZN (v t))
  | intoY {i : Instr} {v : State → Byte} (hfree : CycFree v) (hy : writesY i = true) (hzn : writesZN i = true) :
      Shape i (implied fun t => (t.setY (v t)).setZN (v t))
  | flagOp {i : Instr} {f : Flags → Flags} (hf : ∀ fl, FlagsKept i fl (f fl)) : Shape i (flagOp f)
  | branch {i : Instr} {cond : State → Bool} {rel : Byte} (hcond : CycFree cond) :
      Shape i (fun s => branch (cond s) rel s)
  | jump {i : Instr} {target : State → Addr} {cost : Nat} (hb : 2 ≤ cost ∧ cost ≤ 7) (ht : CycFree target) :
      Shape i (fun s => .next ((s.completed 3 cost).setPc (target s)))
  | txs : Shape .txs execTxs
  | nop : Shape .nop execNop
  | jsr (addr : Addr) : Shape (.jsr addr) (execJsr addr)
  | rts : Shape .rts execRts
  | pha : Shape .pha execPha
  | php : Shape .php execPhp
  | pla : Shape .pla execPla
  | plp : Shape .plp execPlp
  | brk : Shape .brk execBrk
  | rti : Shape .rti execRti
  | hlt : Shape .hlt execHlt
  | unknown (op : Byte) : Shape (.unknown op) (execUnknown op)

/-- Every instruction has one of the shapes. -/
theorem shape_exec (i : Instr) : Shape i (exec i) := by
  cases i with
  | adcImm | adcZp | adcZpX | adcAbs | adcAbsX | adcAbsY | adcIndX | adcIndY =>
    exact .adc (by decide) rfl rfl rfl rfl
  | sbcImm | sbcZp | sbcZpX | sbcAbs | sbcAbsX | sbcAbsY | sbcIndX | sbcIndY =>
    exact .sbc (by decide) rfl rfl rfl rfl
  | cmpImm | cmpZp | cmpZpX | cmpAbs | cmpAbsX | cmpAbsY | cmpIndX | cmpIndY =>
    exact .compare (reg := State.a) (by decide) (fun _ _ => rfl) rfl rfl
  | cpxImm | cpxZp | cpxAbs => exact .compare (reg := State.x) (by decide) (fun _ _ => rfl) rfl rfl
  | cpyImm | cpyZp | cpyAbs => exact .compare (reg := State.y) (by decide) (fun _ _ => rfl) rfl rfl
  | incZp | incZpX | incAbs | incAbsX => exact .step8 (f := inc8) (by decide) nofun rfl
  | decZp | decZpX | decAbs | decAbsX => exact .step8 (f := dec8) (by decide) nofun rfl
  | inx => exact .intoX (v := fun t => inc8 t.x) (fun _ _ => rfl) rfl rfl
  | iny => exact .intoY (v := fun t => inc8 t.y) (fun _ _ => rfl) rfl rfl
  | dex => exact .intoX (v := fun t => dec8 t.x) (fun _ _ => rfl) rfl rfl
  | dey => exact .intoY (v := fun t => dec8 t.y) (fun _ _ => rfl) rfl rfl
  | andImm | andZp | andZpX | andAbs | andAbsX | andAbsY | andIndX | andIndY
  | eorImm | eorZp | eorZpX | eorAbs | eorAbsX | eorAbsY | eorIndX | eorIndY
  | oraImm | oraZp | oraZpX | oraAbs | oraAbsX | oraAbsY | oraIndX | oraIndY => exact .combine (by decide) rfl rfl
  | bitZp | bitAbs => exact .bitTest (by decide) rfl rfl
  | ldaImm | ldaZp | ldaZpX | ldaAbs | ldaAbsX | ldaAbsY | ldaIndX | ldaIndY => exact .lda (by decide) rfl rfl
  | ldxImm | ldxZp | ldxZpY | ldxAbs | ldxAbsY => exact .ldx (by decide) rfl rfl
  | ldyImm | ldyZp | ldyZpX | ldyAbs | ldyAbsX => exact .ldy (by decide) rfl rfl
  | staZp | staZpX | staAbs | staAbsX | staAbsY | staIndX | staIndY =>
    exact .store (reg := State.a) (by decide) (fun _ _ => rfl) nofun
  | stxZp | stxZpY | stxAbs => exact .store (reg := State.x) (by decide) (fun _ _ => rfl) nofun
  | styZp | styZpX | styAbs => exact .store (reg := State.y) (by decide) (fun _ _ => rfl) nofun
  | tax => exact .intoX (v := State.a) (fun _ _ => rfl) rfl rfl
  | tay => exact .intoY (v := State.a) (fun _ _ => rfl) rfl rfl
  | txa => exact .intoA (v := State.x) (fun _ _ => rfl) rfl rfl
  | tya => exact .intoA (v := State.y) (fun _ _ => rfl) rfl rfl
  | tsx => exact .intoX (v := State.sp) (fun _ _ => rfl) rfl rfl
  | aslAcc => exact .shift (f := fun v _ => asl v) (by decide) (.inr rfl) rfl rfl
  | aslZp | aslZpX | aslAbs | aslAbsX => exact .shift (f := fun v _ => asl v) (by decide) (.inl nofun) rfl rfl
  | lsrAcc => exact .shift (f := fun v _ => lsr v) (by decide) (.inr rfl) rfl rfl
  | lsrZp | lsrZpX | lsrAbs | lsrAbsX => exact .shift (f := fun v _ => lsr v) (by decide) (.inl nofun) rfl rfl
  | rolAcc => exact .shift (f := rol) (by decide) (.inr rfl) rfl rfl
  | rolZp | rolZpX | rolAbs | rolAbsX => exact .shift (f := rol) (by decide) (.inl nofun) rfl rfl
  | rorAcc => exact .shift (f := ror) (by decide) (.inr rfl) rfl rfl
  | rorZp | rorZpX | rorAbs | rorAbsX => exact .shift (f := ror) (by decide) (.inl nofun) rfl rfl
  | bcc => exact .branch (cond := fun s => !s.flags.c) fun _ _ => rfl
  | bcs => exact .branch (cond := fun s => s.flags.c) fun _ _ => rfl
  | beq => exact .branch (cond := fun s => s.flags.z) fun _ _ => rfl
  | bmi => exact .branch (cond := fun s => s.flags.n) fun _ _ => rfl
  | bne => exact .branch (cond := fun s => !s.flags.z) fun _ _ => rfl
  | bpl => exact .branch (cond := fun s => !s.flags.n) fun _ _ => rfl
  | bvc => exact .branch (cond := fun s => !s.flags.v) fun _ _ => rfl
  | bvs => exact .branch (cond := fun s => s.flags.v) fun _ _ => rfl
  | jmpAbs addr => exact .jump (target := fun _ => addr) (by decide) fun _ _ => rfl
  | jmpInd ptr => exact .jump (target := fun s => s.read16bug ptr) (by decide) fun _ _ => rfl
  | clc => exact .flagOp (f := fun fl => { fl with c := false }) fun _ => by simp [FlagsKept, writesC, mnemonicOf]
  | cld => exact .flagOp (f := fun fl => { fl with d := false }) fun _ => by simp [FlagsKept, writesD, mnemonicOf]
  | cli => exact .flagOp (f := fun fl => { fl with i := false }) fun _ => by simp [FlagsKept, writesI, mnemonicOf]
  | clv => exact .flagOp (f := fun fl => { fl with v := false }) fun _ => by simp [FlagsKept, writesV, mnemonicOf]
  | sec => exact .flagOp (f := fun fl => { fl with c := true }) fun _ => by simp [FlagsKept, writesC, mnemonicOf]
  | sed => exact .flagOp (f := fun fl => { fl with d := true }) fun _ => by simp [FlagsKept, writesD, mnemonicOf]
  | sei => exact .flagOp (f := fun fl => { fl with i := true }) fun _ => by simp [FlagsKept, writesI, mnemonicOf]
  | txs => exact .txs
  | nop => exact .nop
  | jsr addr => exact .jsr addr
  | rts => exact .rts
  | pha => exact .pha
  | php => exact .php
  | pla => exact .pla
  | plp => exact .plp
  | brk => exact .brk
  | rti => exact .rti
  | hlt => exact .hlt
  | unknown op => exact .unknown op

/-! ### What an instruction leaves unchanged -/

/-- The registers an instruction is no writer of stand (10_state.md R15 to R18). -/
def RegistersKept (i : Instr) (s t : State) : Prop :=
  (writesA i = false → t.a = s.a) ∧ (writesX i = false → t.x = s.x) ∧
  (writesY i = false → t.y = s.y) ∧ (writesSp i = false → t.sp = s.sp)

theorem Shape.registersKept {i : Instr} {g : State → Result} (hg : Shape i g) {s t : State} (h : g s = .next t) :
    RegistersKept i s t := by
  cases hg with
  | adc _ ha => obtain ⟨-, rfl⟩ := adc_next.1 h; simp [RegistersKept, ha]
  | sbc _ ha => obtain ⟨-, rfl⟩ := sbc_next.1 h; simp [RegistersKept, ha]
  | compare => rw [readClass_next.1 h]; simp [RegistersKept]
  | combine _ ha => rw [readClass_next.1 h]; simp [RegistersKept, ha]
  | bitTest => rw [readClass_next.1 h]; simp [RegistersKept]
  | lda _ ha => rw [readClass_next.1 h]; simp [RegistersKept, ha]
  | ldx _ hx => rw [readClass_next.1 h]; simp [RegistersKept, hx]
  | ldy _ hy => rw [readClass_next.1 h]; simp [RegistersKept, hy]
  | store _ _ ho => rw [storeClass_next.1 h]; simp [RegistersKept, writeOperand_a (resolve_loc_ne_acc ho s)]
  | step8 _ ho => rw [modifyClass_next.1 h]; simp [RegistersKept, writeOperand_a (resolve_loc_ne_acc ho s)]
  | shift _ ha =>
    rw [modifyClass_next.1 h]
    obtain ho | ha := ha
    · simp [RegistersKept, writeOperand_a (resolve_loc_ne_acc ho s)]
    · simp [RegistersKept, ha]
  | intoA _ ha => rw [implied_next.1 h]; simp [RegistersKept, ha]
  | intoX _ hx => rw [implied_next.1 h]; simp [RegistersKept, hx]
  | intoY _ hy => rw [implied_next.1 h]; simp [RegistersKept, hy]
  | flagOp => rw [implied_next.1 h]; simp [RegistersKept]
  | branch => rw [branch_next.1 h]; split <;> simp [RegistersKept]
  | jump => cases h; simp [RegistersKept]
  | txs => rw [implied_next.1 h]; simp [RegistersKept, writesSp, mnemonicOf]
  | nop => rw [implied_next.1 h]; simp [RegistersKept]
  | jsr | rts | pha | php | plp | brk | rti => cases h; simp [RegistersKept, writesSp, mnemonicOf]
  | pla => cases h; simp [RegistersKept, writesA, writesSp, mnemonicOf]
  | hlt => cases h; simp [RegistersKept]
  | unknown op => obtain ⟨-, rfl⟩ := exec_unknown_next.1 h; simp [RegistersKept]

theorem FlagsKept.refl (i : Instr) (f : Flags) : FlagsKept i f f := by simp [FlagsKept]

theorem FlagsKept.setZN {i : Instr} (hzn : writesZN i = true) (f : Flags) (v : Byte) : FlagsKept i f (f.setZN v) := by
  simp [FlagsKept, Flags.setZN, hzn]

theorem FlagsKept.setAlu {i : Instr} (hc : writesC i = true) (hzn : writesZN i = true) (hv : writesV i = true)
    (f : Flags) (q : AluOut) : FlagsKept i f (f.setAlu q) := by
  simp [FlagsKept, Flags.setAlu, Flags.setZN, hc, hzn, hv]

theorem FlagsKept.compare {i : Instr} (hc : writesC i = true) (hzn : writesZN i = true) (f : Flags) (reg m : Byte) :
    FlagsKept i f (f.compare reg m) := by
  simp [FlagsKept, Flags.compare, hc, hzn]

theorem FlagsKept.bitTest {i : Instr} (hzn : writesZN i = true) (hv : writesV i = true) (f : Flags) (acc m : Byte) :
    FlagsKept i f (f.bitTest acc m) := by
  simp [FlagsKept, Flags.bitTest, hzn, hv]

theorem FlagsKept.setShift {i : Instr} (hc : writesC i = true) (hzn : writesZN i = true) (f : Flags) (q : ShiftOut) :
    FlagsKept i f (f.setShift q) := by
  simp [FlagsKept, Flags.setShift, Flags.setZN, hc, hzn]

/-- PLP and RTI are writers of every flag. -/
theorem FlagsKept.of_writesAll {i : Instr} (hi : mnemonicOf i = .plp ∨ mnemonicOf i = .rti) (f f' : Flags) :
    FlagsKept i f f' := by
  obtain hi | hi := hi <;> simp [FlagsKept, writesC, writesZN, writesV, writesI, writesD, writesB, hi]

theorem Shape.flagsKept {i : Instr} {g : State → Result} (hg : Shape i g) {s t : State} (h : g s = .next t) :
    FlagsKept i s.flags t.flags := by
  cases hg with
  | adc _ _ hc hzn hv => obtain ⟨-, rfl⟩ := adc_next.1 h; exact .setAlu hc hzn hv ..
  | sbc _ _ hc hzn hv => obtain ⟨-, rfl⟩ := sbc_next.1 h; exact .setAlu hc hzn hv ..
  | compare _ _ hc hzn => rw [readClass_next.1 h]; exact .compare hc hzn ..
  | combine _ _ hzn => rw [readClass_next.1 h]; exact .setZN hzn ..
  | bitTest _ hzn hv => rw [readClass_next.1 h]; exact .bitTest hzn hv ..
  | lda _ _ hzn => rw [readClass_next.1 h]; exact .setZN hzn ..
  | ldx _ _ hzn => rw [readClass_next.1 h]; exact .setZN hzn ..
  | ldy _ _ hzn => rw [readClass_next.1 h]; exact .setZN hzn ..
  | store => rw [storeClass_next.1 h, writeOperand_flags]; exact .refl ..
  | step8 _ _ hzn => rw [modifyClass_next.1 h, writeOperand_flags]; exact .setZN hzn ..
  | shift _ _ hc hzn => rw [modifyClass_next.1 h, writeOperand_flags]; exact .setShift hc hzn ..
  | intoA _ _ hzn => rw [implied_next.1 h]; exact .setZN hzn ..
  | intoX _ _ hzn => rw [implied_next.1 h]; exact .setZN hzn ..
  | intoY _ _ hzn => rw [implied_next.1 h]; exact .setZN hzn ..
  | flagOp hf => rw [implied_next.1 h]; exact hf _
  | branch => rw [branch_next.1 h]; split <;> exact .refl ..
  | jump | jsr | rts | pha | php | hlt => cases h; exact .refl ..
  | txs | nop => rw [implied_next.1 h]; exact .refl ..
  | pla => cases h; exact .setZN rfl ..
  | plp => exact .of_writesAll (.inl rfl) ..
  | rti => exact .of_writesAll (.inr rfl) ..
  | brk =>
    cases h
    rw [State.takeBreak_flags]
    simp [FlagsKept, writesI, writesB, mnemonicOf]
  | unknown => obtain ⟨-, rfl⟩ := exec_unknown_next.1 h; exact .refl ..

/-- Settles O15: the case split over the shapes, of which every instruction has one. -/
theorem onlyWritersChangeRegisters : Obligations.OnlyWritersChangeRegisters :=
  fun i _ _ h => (shape_exec i).registersKept h

/-- Settles O16: the case split over the shapes, of which every instruction has one. -/
theorem onlyWritersChangeFlags : Obligations.OnlyWritersChangeFlags :=
  fun i _ _ h => (shape_exec i).flagsKept h

/-! ### What an instruction costs -/

/-- What a step accounts for beside its effect: CYC, the budget, the outcome, the events and the parameters. -/
def State.books (s : State) : Nat × Option Int × StepOutcome × List Diag × Params :=
  (s.cyc, s.remaining, s.outcome, s.diags, s.cfg)

/-- `f` leaves the books alone and does not read CYC. -/
structure Neutral (f : State → State) : Prop where
  books : ∀ s, (f s).books = s.books
  cycFree : ∀ s k, f (s.withCyc k) = (f s).withCyc k

/-- `g` takes `s` to `t` in 2 to 7 cycles it accounts for, and does the same from any other count of cycles. -/
def Timed (g : State → Result) (s t : State) : Prop :=
  ∃ cost, 2 ≤ cost ∧ cost ≤ 7 ∧ Accounted s t cost ∧ ∀ k, g (s.withCyc k) = .next (t.withCyc (k + cost))

theorem accounted_of_books {s t : State} {len cost : Nat} (h : t.books = (s.completed len cost).books) :
    Accounted s t cost := by
  simpa [State.books, Accounted] using h

/-- An instruction that completes and then runs a neutral effect is accounted for by its completion. -/
theorem Neutral.timed {f : State → State} (hf : Neutral f) {g : State → Result} {s : State} {len cost : Nat}
    (hcost : 2 ≤ cost ∧ cost ≤ 7) (hg : ∀ k, g (s.withCyc k) = .next (f ((s.withCyc k).completed len cost))) :
    Timed g s (f (s.completed len cost)) := by
  refine ⟨cost, hcost.1, hcost.2, accounted_of_books (hf.books _), fun k => ?_⟩
  rw [hg, State.completed_withCyc, hf.cycFree]

theorem Neutral.writeOperand (l : Loc) (v : Byte) : Neutral (writeOperand l v) :=
  ⟨fun _ => by simp [State.books], fun _ _ => by simp⟩

theorem Neutral.setA_setFlags (v : Byte) (fl : Flags) : Neutral fun u => (u.setA v).setFlags fl :=
  ⟨fun _ => rfl, fun _ _ => rfl⟩

theorem Neutral.setPc (target : Addr) : Neutral fun u => u.setPc target := ⟨fun _ => rfl, fun _ _ => rfl⟩

theorem readCost_range {base : Nat} (hb : 2 ≤ base ∧ base ≤ 6) (o : Operand) (s : State) :
    2 ≤ base + pageBonus o s ∧ base + pageBonus o s ≤ 7 := by
  have := pageBonus_le_one o s
  omega

theorem readClass_timed {o : Operand} {base : Nat} {f : Byte → State → State} {s t : State}
    (h : readClass o base f s = .next t) (hb : 2 ≤ base ∧ base ≤ 6) (hf : ∀ m, Neutral (f m)) :
    Timed (readClass o base f) s t := by
  rw [readClass_next.1 h]
  exact (hf _).timed (readCost_range hb o s) fun k => by simp [readClass]

theorem modifyClass_timed {o : Operand} {base : Nat} {r : State → Byte} {f : State → Flags} {s t : State}
    (h : modifyClass o base (r s) (f s) s = .next t) (hb : 2 ≤ base ∧ base ≤ 7) (hr : CycFree r) (hf : CycFree f) :
    Timed (fun s => modifyClass o base (r s) (f s) s) s t := by
  rw [modifyClass_next.1 h]
  have hn : Neutral fun u => writeOperand (resolve o s).loc (r s) (u.setFlags (f s)) :=
    ⟨fun u => (Neutral.writeOperand _ _).books (u.setFlags (f s)),
      fun u k => (Neutral.writeOperand _ _).cycFree (u.setFlags (f s)) k⟩
  exact hn.timed hb fun k => by simp [modifyClass, hr s k, hf s k]

theorem implied_timed {f : State → State} {s t : State} (h : implied f s = .next t) (hf : Neutral f) :
    Timed (implied f) s t := by
  rw [implied_next.1 h]
  exact hf.timed (by decide) fun _ => rfl

theorem branch_timed {cond : State → Bool} {rel : Byte} (hcond : CycFree cond) {s t : State}
    (h : branch (cond s) rel s = .next t) : Timed (fun s => branch (cond s) rel s) s t := by
  have htaken := bit_le_one (pageCross (s.pc + 2) (branchTarget rel (s.pc + 2)))
  rw [branch_next.1 h]
  split
  case isTrue hc =>
    exact (Neutral.setPc _).timed (by omega) fun k => by rw [branch_next, hcond, if_pos hc]; rfl
  case isFalse hc =>
    exact Neutral.timed (f := id) ⟨fun _ => rfl, fun _ _ => rfl⟩ (by decide) fun k => by
      rw [branch_next, hcond, if_neg hc]; rfl

/-- The halt and the unknown opcode are left out: they take 1 cycle, and the event of an unknown opcode carries CYC. -/
theorem Shape.timed {i : Instr} {g : State → Result} (hg : Shape i g) (hh : i ≠ .hlt) (hu : mnemonicOf i ≠ .unknown)
    {s t : State} (h : g s = .next t) : Timed g s t := by
  cases hg with
  | adc hb =>
    obtain ⟨hd, rfl⟩ := adc_next.1 h
    exact (Neutral.setA_setFlags _ _).timed (readCost_range hb _ s) fun k =>
      adc_next.2 ⟨hd, by rw [pageBonus_withCyc, operandValue_withCyc]; rfl⟩
  | sbc hb =>
    obtain ⟨hd, rfl⟩ := sbc_next.1 h
    exact (Neutral.setA_setFlags _ _).timed (readCost_range hb _ s) fun k =>
      sbc_next.2 ⟨hd, by rw [pageBonus_withCyc, operandValue_withCyc]; rfl⟩
  | @compare _ reg _ _ hb hreg =>
    rw [readClass_next.1 h]
    exact Neutral.timed (f := fun u => u.setFlags (u.flags.compare (reg s) _)) ⟨fun _ => rfl, fun _ _ => rfl⟩
      (readCost_range hb _ s) fun k => by simp [compareWith, readClass, hreg s k]
  | combine hb => exact readClass_timed h hb fun _ => ⟨fun _ => rfl, fun _ _ => rfl⟩
  | bitTest hb => exact readClass_timed h hb fun _ => ⟨fun _ => rfl, fun _ _ => rfl⟩
  | lda hb => exact readClass_timed h hb fun _ => ⟨fun _ => rfl, fun _ _ => rfl⟩
  | ldx hb => exact readClass_timed h hb fun _ => ⟨fun _ => rfl, fun _ _ => rfl⟩
  | ldy hb => exact readClass_timed h hb fun _ => ⟨fun _ => rfl, fun _ _ => rfl⟩
  | store hb hreg =>
    rw [storeClass_next.1 h]
    exact (Neutral.writeOperand _ _).timed hb fun k => by simp [storeClass, hreg s k]
  | @step8 _ f o _ hb =>
    have hr : CycFree fun u => f (operandValue o u) := fun u k => by simp only [operandValue_withCyc]
    exact modifyClass_timed h hb hr fun u k => congrArg (u.flags.setZN ·) (hr u k)
  | @shift _ f o _ hb =>
    have hq : CycFree fun u => f (operandValue o u) u.flags.c := fun u k => by simp only [operandValue_withCyc]; rfl
    exact modifyClass_timed h hb (fun u k => congrArg ShiftOut.r (hq u k)) fun u k =>
      congrArg (u.flags.setShift ·) (hq u k)
  | intoA hfree => exact implied_timed h ⟨fun _ => rfl, fun s k => by rw [hfree s k]; rfl⟩
  | intoX hfree => exact implied_timed h ⟨fun _ => rfl, fun s k => by rw [hfree s k]; rfl⟩
  | intoY hfree => exact implied_timed h ⟨fun _ => rfl, fun s k => by rw [hfree s k]; rfl⟩
  | flagOp => exact implied_timed h ⟨fun _ => rfl, fun _ _ => rfl⟩
  | branch hcond => exact branch_timed hcond h
  | jump hb ht =>
    cases h
    exact (Neutral.setPc _).timed hb fun k => by rw [ht s k]
  | txs | nop => exact implied_timed h ⟨fun _ => rfl, fun _ _ => rfl⟩
  | jsr | rts | rti => cases h; exact ⟨6, by decide, by decide, by simp [Accounted], fun k => by simp⟩
  | pha | php => cases h; exact ⟨3, by decide, by decide, by simp [Accounted], fun k => by simp⟩
  | pla | plp => cases h; exact ⟨4, by decide, by decide, by simp [Accounted], fun k => by simp⟩
  | brk => cases h; exact ⟨7, by decide, by decide, by simp [Accounted], fun k => by simp⟩
  | hlt => exact absurd rfl hh
  | unknown op => exact absurd rfl hu

theorem eq_unknown_of_mnemonicOf {i : Instr} (h : mnemonicOf i = .unknown) : ∃ op, i = .unknown op := by
  cases i with
  | unknown op => exact ⟨op, rfl⟩
  | _ => exact nomatch h

/-- Settles O10: the halt and the unknown opcode by their own equations, every other instruction by its shape. -/
theorem stepAccountsForItsCycles : Obligations.StepAccountsForItsCycles := by
  intro s t h
  by_cases hh : s.nextInstr = .hlt
  · rw [step, hh] at h
    cases h
    simp [hh, Function.comp_def]
  by_cases hu : mnemonicOf s.nextInstr = .unknown
  · obtain ⟨op, hop⟩ := eq_unknown_of_mnemonicOf hu
    rw [step, hop, exec_unknown_next] at h
    obtain ⟨-, rfl⟩ := h
    simp [hop]
  · obtain ⟨cost, hlo, hhi, ⟨hcyc, hremaining, houtcome, -, hcfg⟩, -⟩ := (shape_exec s.nextInstr).timed hh hu h
    refine ⟨by omega, by omega, hcfg, by simp [houtcome, hh], by simp [houtcome], fun _ => ?_⟩
    simp [hremaining, hcyc]

/-- Settles O13: the fetch does not read CYC, and from another count the fetched instruction gains the same cost. -/
theorem cycIsNeverRead : Obligations.CycIsNeverRead := by
  intro s t k hu h
  have hfetch : (s.withCyc k).nextInstr = s.nextInstr := rfl
  have hgain : exec s.nextInstr (s.withCyc k) = .next (t.withCyc (k + (t.cyc - s.cyc))) := by
    by_cases hh : s.nextInstr = .hlt
    · rw [step, hh] at h
      cases h
      simp [hh]
    · obtain ⟨cost, -, -, ⟨hcyc, -⟩, hfree⟩ := (shape_exec s.nextInstr).timed hh hu h
      rw [hfree, hcyc, Nat.add_sub_cancel_left]
  rw [← hfetch] at hgain
  exact hgain

end Sys2Proof.Machine

namespace Sys2Proof.Machine

/-! ### The bytes an instruction stores -/

/-- `t` holds the memory of `s` after one byte stored at each address of the list in turn, and the parameters of `s`
(20_memory.md R47, R58). What becomes of the registers is left open. -/
inductive Stores : List Addr → State → State → Prop
  | none {s t : State} (hmem : t.mem = s.mem) (hcfg : t.cfg = s.cfg) : Stores [] s t
  | byte {s t : State} {a : Addr} {l : List Addr} (v : Byte) (h : Stores l (s.writeByte a v) t) : Stores (a :: l) s t

theorem Stores.keepsMemoryBut {l : List Addr} {s t : State} (h : Stores l s t) : KeepsMemoryBut l s t := by
  induction h with
  | none hmem hcfg => exact fun b _ => State.readByte_eq_of_mem _ _ hmem hcfg b
  | byte v _ ih =>
    intro b hb
    obtain ⟨hne, hb⟩ := not_or.1 (mt List.mem_cons.2 hb)
    rw [ih b hb, State.readByte_writeByte, if_neg hne]

theorem State.Inv.writeByte {s : State} (hs : s.Inv) (a : Addr) (v : Byte) : (s.writeByte a v).Inv :=
  ⟨State.wf_writeByte a v hs.1, hs.2⟩

theorem Stores.inv {l : List Addr} {s t : State} (h : Stores l s t) (hs : s.Inv) : t.Inv := by
  induction h with
  | none hmem hcfg => rwa [State.Inv, hmem, hcfg]
  | byte v _ ih => exact ih (hs.writeByte _ v)

theorem writeOperand_stores (l : Loc) (v : Byte) {s u : State} (hmem : u.mem = s.mem) (hcfg : u.cfg = s.cfg) :
    Stores (locBytes l) s (writeOperand l v u) := by
  cases l with
  | imm | acc => exact .none hmem hcfg
  | mem a => exact .byte v (.none (by simp [writeOperand, State.unlisted, hmem, hcfg]) hcfg)

theorem storeClass_stores {o : Operand} {base : Nat} {v : Byte} {s t : State} (h : storeClass o base v s = .next t) :
    Stores (locBytes (resolve o s).loc) s t := by
  rw [storeClass_next.1 h]
  exact writeOperand_stores (s := s) _ _ rfl rfl

theorem modifyClass_stores {o : Operand} {base : Nat} {r : Byte} {f : Flags} {s t : State}
    (h : modifyClass o base r f s = .next t) : Stores (locBytes (resolve o s).loc) s t := by
  rw [modifyClass_next.1 h]
  exact writeOperand_stores (s := s) _ _ rfl rfl

theorem takeBreak_stores (s : State) :
    Stores [stackAddr s.sp, stackAddr (s.sp - 1), stackAddr (s.sp - 2)] s s.takeBreak := by
  have hsp : s.sp - 2 = s.sp - 1 - 1 := by simp [BitVec.sub_sub]
  rw [hsp]
  exact .byte (hi s.brkReturnAddr) (.byte (lo s.brkReturnAddr) (.byte (encodeStatus s.flags.withBreak) (.none rfl rfl)))

/-- An instruction stores to the bytes `storedBytes` names, and its step changes memory in no other way. -/
theorem exec_stores {i : Instr} {s t : State} (h : exec i s = .next t) : Stores (storedBytes i s) s t := by
  cases i with
  | adcImm | adcZp | adcZpX | adcAbs | adcAbsX | adcAbsY | adcIndX | adcIndY =>
    obtain ⟨-, rfl⟩ := adc_next.1 h; exact .none rfl rfl
  | sbcImm | sbcZp | sbcZpX | sbcAbs | sbcAbsX | sbcAbsY | sbcIndX | sbcIndY =>
    obtain ⟨-, rfl⟩ := sbc_next.1 h; exact .none rfl rfl
  | cmpImm | cmpZp | cmpZpX | cmpAbs | cmpAbsX | cmpAbsY | cmpIndX | cmpIndY
  | cpxImm | cpxZp | cpxAbs | cpyImm | cpyZp | cpyAbs
  | andImm | andZp | andZpX | andAbs | andAbsX | andAbsY | andIndX | andIndY
  | eorImm | eorZp | eorZpX | eorAbs | eorAbsX | eorAbsY | eorIndX | eorIndY
  | oraImm | oraZp | oraZpX | oraAbs | oraAbsX | oraAbsY | oraIndX | oraIndY | bitZp | bitAbs
  | ldaImm | ldaZp | ldaZpX | ldaAbs | ldaAbsX | ldaAbsY | ldaIndX | ldaIndY
  | ldxImm | ldxZp | ldxZpY | ldxAbs | ldxAbsY | ldyImm | ldyZp | ldyZpX | ldyAbs | ldyAbsX
  | inx | iny | dex | dey | tax | tay | txa | tya | tsx | txs
  | clc | cld | cli | clv | sec | sed | sei | nop
  | jmpAbs | jmpInd | rts | pla | plp | rti | hlt =>
    cases h; exact .none rfl rfl
  | staZp | staZpX | staAbs | staAbsX | staAbsY | staIndX | staIndY
  | stxZp | stxZpY | stxAbs | styZp | styZpX | styAbs =>
    exact storeClass_stores h
  | incZp | incZpX | incAbs | incAbsX | decZp | decZpX | decAbs | decAbsX
  | aslAcc | aslZp | aslZpX | aslAbs | aslAbsX | lsrAcc | lsrZp | lsrZpX | lsrAbs | lsrAbsX
  | rolAcc | rolZp | rolZpX | rolAbs | rolAbsX | rorAcc | rorZp | rorZpX | rorAbs | rorAbsX =>
    exact modifyClass_stores h
  | bcc | bcs | beq | bmi | bne | bpl | bvc | bvs =>
    rw [branch_next.1 h]; split <;> exact .none rfl rfl
  | jsr => cases h; exact .byte (hi (s.pc + 2)) (.byte (lo (s.pc + 2)) (.none rfl rfl))
  | pha => cases h; exact .byte s.a (.none rfl rfl)
  | php => cases h; exact .byte (encodeStatus s.flags) (.none rfl rfl)
  | brk => cases h; exact takeBreak_stores s
  | unknown => obtain ⟨-, rfl⟩ := exec_unknown_next.1 h; exact .none rfl rfl

/-- Settles O8: a step only stores bytes, and each store keeps the canonical form and the parameters. -/
theorem stepKeepsInv : Obligations.StepKeepsInv :=
  fun _ _ hs h => (exec_stores h).inv hs

/-- Settles O14: the bytes an instruction stores to are those of `storedBytes`, and a store keeps every other byte. -/
theorem onlyStoredBytesChange : Obligations.OnlyStoredBytesChange :=
  fun _ _ _ h => (exec_stores h).keepsMemoryBut

/-- Settles O17: the read after the write, on a state whose memory alone is new. -/
theorem writeSetsOneByte : Obligations.WriteSetsOneByte :=
  fun s a b v => ⟨State.readByte_writeByte s a b v, _, rfl⟩

/-! ### A canonical memory is its contents -/

theorem Memory.read_cons (init : Byte) (k : Nat) (v : Byte) (m : Memory) (a : Nat) :
    Memory.read init ((k, v) :: m) a = if k = a then v else Memory.read init m a := rfl

/-- A canonical memory lists nothing at or below its lower bound. -/
theorem Memory.read_of_le {init : Byte} {k a : Nat} {m : Memory} (h : Memory.wfFrom init (some k) m = true)
    (ha : a ≤ k) : Memory.read init m a = init := by
  induction m generalizing k with
  | nil => rfl
  | cons e m ih =>
    obtain ⟨k', v⟩ := e
    obtain ⟨habove, -, -, htail⟩ := (Memory.wfFrom_cons ..).1 h
    have hk : k < k' := by simpa [Memory.above] using habove
    rw [Memory.read_cons, if_neg (by omega), ih htail (by omega)]

/-- The first entry of a canonical memory has the lowest address that does not read `init`. -/
theorem Memory.head_le_of_read_ne {init : Byte} {low : Option Nat} {k a : Nat} {v : Byte} {m : Memory}
    (h : Memory.wfFrom init low ((k, v) :: m) = true) (ha : Memory.read init ((k, v) :: m) a ≠ init) : k ≤ a := by
  obtain ⟨-, -, -, htail⟩ := (Memory.wfFrom_cons ..).1 h
  by_contra hlt
  rw [Memory.read_cons, if_neg (by omega), Memory.read_of_le htail (by omega)] at ha
  exact ha rfl

theorem Memory.head_read_ne {init : Byte} {low : Option Nat} {k : Nat} {v : Byte} {m : Memory}
    (h : Memory.wfFrom init low ((k, v) :: m) = true) : Memory.read init ((k, v) :: m) k ≠ init := by
  obtain ⟨-, -, hv, -⟩ := (Memory.wfFrom_cons ..).1 h
  rwa [Memory.read_cons, if_pos rfl]

theorem Memory.ext_of_wfFrom {init : Byte} {low low' : Option Nat} {m m' : Memory}
    (h : Memory.wfFrom init low m = true) (h' : Memory.wfFrom init low' m' = true)
    (heq : ∀ a < 65536, Memory.read init m a = Memory.read init m' a) : m = m' := by
  induction m generalizing m' low low' with
  | nil =>
    cases m' with
    | nil => rfl
    | cons e' m' =>
      obtain ⟨-, hk', -, -⟩ := (Memory.wfFrom_cons ..).1 h'
      exact absurd (heq _ hk').symm (Memory.head_read_ne h')
  | cons e m ih =>
    obtain ⟨k, v⟩ := e
    obtain ⟨-, hk, -, htail⟩ := (Memory.wfFrom_cons ..).1 h
    cases m' with
    | nil => exact absurd (heq k hk) (Memory.head_read_ne h)
    | cons e' m' =>
      obtain ⟨k', v'⟩ := e'
      obtain ⟨-, hk', -, htail'⟩ := (Memory.wfFrom_cons ..).1 h'
      have hle : k' ≤ k := Memory.head_le_of_read_ne h' (heq k hk ▸ Memory.head_read_ne h)
      have hge : k ≤ k' := Memory.head_le_of_read_ne h (heq k' hk' ▸ Memory.head_read_ne h')
      obtain rfl : k = k' := le_antisymm hge hle
      obtain rfl : v = v' := by simpa [Memory.read_cons] using heq k hk
      have hrest : m = m' := ih htail htail' fun a ha => by
        by_cases hka : k = a
        · rw [Memory.read_of_le htail hka.ge, Memory.read_of_le htail' hka.ge]
        · simpa [Memory.read_cons, hka] using heq a ha
      rw [hrest]

/-- Settles O18: the heads of both lists are the lowest address that does not read `init`, and so on down the lists. -/
theorem canonicalMemoryIsItsContents : Obligations.CanonicalMemoryIsItsContents :=
  fun _ _ _ h h' heq => Memory.ext_of_wfFrom h h' fun a ha => by
    simpa [Nat.mod_eq_of_lt ha] using heq (BitVec.ofNat 16 a)

/-! ### The 16-bit reads -/

theorem addr_add_one (a : Addr) : a + 1 = BitVec.ofNat 16 ((a.toNat + 1) % 65536) := by
  apply BitVec.eq_of_toNat_eq
  simp [BitVec.toNat_add]

theorem zext16_eq_ofNat (z : Byte) : zext16 z = BitVec.ofNat 16 z.toNat := (BitVec.ofNat_toNat 16 z).symm

theorem zext16_add_one (z : Byte) : zext16 (z + 1) = BitVec.ofNat 16 ((z.toNat + 1) % 256) := by
  rw [zext16_eq_ofNat, BitVec.toNat_add]
  rfl

/-- The second byte of a `read16bug`: the next address within the page (20_memory.md R45). -/
theorem word_hi_lo_add_one (a : Addr) :
    word (hi a) (lo a + 1) = BitVec.ofNat 16 (a.toNat / 256 * 256 + (a.toNat + 1) % 256) := by
  have := a.isLt
  have hone : (1 : Byte).toNat = 1 := rfl
  apply BitVec.eq_of_toNat_eq
  simp only [hone, word_toNat, hi_toNat, BitVec.toNat_add, lo_toNat, BitVec.toNat_ofNat]
  omega

/-- Away from the end of a page, the next address within the page is the next address. -/
theorem word_hi_lo_add_one_of_ne {a : Addr} (h : a.toNat % 256 ≠ 0xFF) : word (hi a) (lo a + 1) = a + 1 := by
  have hnext : a.toNat / 256 * 256 + (a.toNat + 1) % 256 = (a.toNat + 1) % 65536 := by
    have := a.isLt
    omega
  rw [word_hi_lo_add_one, addr_add_one, hnext]

/-- Settles O19: each read joins two bytes, and the address of its high byte wraps as the rule says. -/
theorem sixteenBitReads : Obligations.SixteenBitReads := by
  intro s a z
  refine ⟨?_, ?_, ?_, fun h => ?_⟩
  · rw [State.read16, word_toNat, addr_add_one]
  · rw [State.read16zp, word_toNat, zext16_add_one, zext16_eq_ofNat]
  · rw [State.read16bug, word_toNat, word_hi_lo_add_one]
  · rw [State.read16bug, State.read16, word_hi_lo_add_one_of_ne h]

/-! ### The host's writes -/

theorem loadImage_cons_of_lt {base : Nat} (h : base < 65536) (v : Byte) (rest : List Byte) (s : State) :
    loadImage base (v :: rest) s = loadImage (base + 1) rest (s.writeByte (BitVec.ofNat 16 base) v) := if_pos h

theorem loadImage_cons_of_le {base : Nat} (h : 65536 ≤ base) (v : Byte) (rest : List Byte) (s : State) :
    loadImage base (v :: rest) s = s := if_neg (Nat.not_lt.2 h)

/-- A write below 65536 hits the one address of that number. -/
theorem readByte_writeByte_ofNat {k : Nat} (hk : k < 65536) (v : Byte) (s : State) (a : Addr) :
    (s.writeByte (BitVec.ofNat 16 k) v).readByte a = if a.toNat = k then v else s.readByte a := by
  have haddr : a = BitVec.ofNat 16 k ↔ a.toNat = k := by
    rw [← BitVec.toNat_inj, BitVec.toNat_ofNat, Nat.mod_eq_of_lt hk]
  simp only [State.readByte_writeByte, haddr]

/-- A byte of the image lands where the load of the rest leaves it alone. -/
theorem readByte_loadImage (base : Nat) (image : List Byte) (s : State) (a : Addr) :
    (loadImage base image s).readByte a =
      if base ≤ a.toNat then image.getD (a.toNat - base) (s.readByte a) else s.readByte a := by
  induction image generalizing base s with
  | nil => simp [loadImage]
  | cons v rest ih =>
    obtain hb | hb := Nat.lt_or_ge base 65536
    · rw [loadImage_cons_of_lt hb, ih, readByte_writeByte_ofNat hb]
      obtain hlt | heq | hgt := Nat.lt_trichotomy a.toNat base
      · have hafter : ¬ base + 1 ≤ a.toNat := by omega
        simp [hafter, hlt.ne, hlt.not_ge]
      · simp [heq]
      · obtain ⟨k, hk⟩ := Nat.exists_eq_add_of_le hgt
        have hpos : a.toNat - base = k + 1 := by omega
        have hrest : a.toNat - (base + 1) = k := by omega
        simp [hgt.ne', hgt.le, hpos, hrest, Nat.succ_le_of_lt hgt]
    · have hpast : ¬ base ≤ a.toNat := by have := a.isLt; omega
      rw [loadImage_cons_of_le hb, if_neg hpast]

theorem loadImage_memory_only (base : Nat) (image : List Byte) (s : State) :
    ∃ m, loadImage base image s = { s with mem := m } := by
  induction image generalizing base s with
  | nil => exact ⟨s.mem, rfl⟩
  | cons v rest ih =>
    obtain hb | hb := Nat.lt_or_ge base 65536
    · rw [loadImage_cons_of_lt hb]
      exact ih _ _
    · exact ⟨s.mem, loadImage_cons_of_le hb ..⟩

/-- Settles O57: HostWrite is the byte store, HostClear the empty memory, and the image load goes byte by byte. -/
theorem hostWritesMemoryOnly : Obligations.HostWritesMemoryOnly :=
  fun s base image a b v =>
    ⟨State.readByte_writeByte s a b v, readByte_loadImage base image s a, rfl, ⟨_, rfl⟩,
      loadImage_memory_only base image s, ⟨_, rfl⟩⟩

/-! ### Power-on -/

/-- A constructed core reads MEM_INIT everywhere (20_memory.md R42). -/
theorem readByte_construct (p : Params) (a : Addr) : (construct p).readByte a = p.memInit := rfl

theorem reset_eq_hostReset : State.reset = hostReset (construct Params.default) := rfl

/-- Settles O56: Reset overwrites every free value, and both bytes of the vector it reads are MEM_INIT. -/
theorem powerOnIsConstructThenReset : Obligations.PowerOnIsConstructThenReset :=
  ⟨reset_eq_hostReset, rfl, readByte_construct Params.default⟩

end Sys2Proof.Machine

namespace Sys2Proof

/-! ### The opcode table against the encoder -/

/-- The row agrees with the encoder, and its `build` reads just the operand bytes of its form (30_encoding.md R60, R64):
one constructor per number of operand bytes. -/
inductive OpRow.Encodes : OpRow → Prop
  | noOperand {op : Byte} {f : Form} {base : Nat} {bonus : Bonus} {i : Instr} (hf : f.operandBytes = 0)
      (hwf : ∀ halt, i.wf halt = true) (henc : ∀ halt, encode halt i = [op]) :
      Encodes ⟨op, f, base, bonus, fun _ _ => i⟩
  | byteOperand {op : Byte} {f : Form} {base : Nat} {bonus : Bonus} {i : Byte → Instr} (hf : f.operandBytes = 1)
      (hwf : ∀ halt v, (i v).wf halt = true) (henc : ∀ halt v, encode halt (i v) = [op, v]) :
      Encodes ⟨op, f, base, bonus, fun b1 _ => i b1⟩
  | wordOperand {op : Byte} {f : Form} {base : Nat} {bonus : Bonus} {i : Addr → Instr} (hf : f.operandBytes = 2)
      (hwf : ∀ halt a, (i a).wf halt = true) (henc : ∀ halt a, encode halt (i a) = [op, lo a, hi a]) :
      Encodes ⟨op, f, base, bonus, fun b1 b2 => i (word b2 b1)⟩

/-- Which constructor a row has is read off its `build`. -/
theorem encodes_of_mem_opcodeTable : ∀ r ∈ opcodeTable, r.Encodes :=
  List.forall_iff_forall_mem.1 (by and_intros <;> constructor <;> intros <;> rfl)

theorem OpRow.Encodes.wf_build {r : OpRow} (hr : r.Encodes) (halt : Option Byte) (b1 b2 : Byte) :
    (r.build b1 b2).wf halt = true := by
  cases hr with
  | noOperand _ hwf => exact hwf halt
  | byteOperand _ hwf => exact hwf halt b1
  | wordOperand _ hwf => exact hwf halt (word b2 b1)

theorem OpRow.Encodes.encode_build {r : OpRow} (hr : r.Encodes) (halt : Option Byte) (b1 b2 : Byte) :
    encode halt (r.build b1 b2) = [r.opcode, b1, b2].take r.form.length := by
  cases hr with
  | noOperand hf _ henc => simp [Form.length, hf, henc]
  | byteOperand hf _ henc => simp [Form.length, hf, henc]
  | wordOperand hf _ henc => simp [Form.length, hf, henc]

/-! ### The decoder, by the kind of the opcode byte -/

theorem opcodeLength_row {r : OpRow} (h : r ∈ opcodeTable) : opcodeLength r.opcode = r.form.length := by
  simp [opcodeLength, findRow_of_mem h]

theorem opcodeLength_undocumented {op : Byte} (h : isUndocumented op = true) : opcodeLength op = 1 := by
  simp [opcodeLength, (findRow_none_iff op).2 h]

theorem decode_of_findRow {halt : Option Byte} {op b1 b2 : Byte} {r : OpRow} {i : Instr} (hr : findRow op = some r)
    (hi : r.build b1 b2 = i) : decode halt op b1 b2 = i := by
  simp [decode, hr, hi]

/-- The opcode of a row takes the operand bytes of its form and leaves the rest. -/
theorem decodeBytes_row {r : OpRow} (h : r ∈ opcodeTable) (halt : Option Byte) {operands : List Byte}
    (hlen : operands.length = r.form.operandBytes) (rest : List Byte) :
    decodeBytes halt (r.opcode :: (operands ++ rest)) =
      .ok (r.build ((operands ++ rest).getD 0 0) ((operands ++ rest).getD 1 0), rest) := by
  have hfits : ¬ (operands ++ rest).length + 1 < r.form.length := by
    rw [Form.length, ← hlen, List.length_append]
    omega
  have hdrop : (operands ++ rest).drop (r.form.length - 1) = rest := by
    rw [Form.length, Nat.add_sub_cancel_left, List.drop_left' hlen]
  rw [decodeBytes, opcodeLength_row h, if_neg hfits, hdrop, decode_row h]

theorem decodeBytes_undocumented {op : Byte} (h : isUndocumented op = true) (halt : Option Byte) (rest : List Byte) :
    decodeBytes halt (op :: rest) = .ok (if halt = some op then .hlt else .unknown op, rest) := by
  simp [decodeBytes, opcodeLength_undocumented h, decode_undocumented h]

theorem OpRow.Encodes.decodeBytes_encode {r : OpRow} (hr : r.Encodes) (hmem : r ∈ opcodeTable) (halt : Option Byte)
    (b1 b2 : Byte) (rest : List Byte) :
    decodeBytes halt (encode halt (r.build b1 b2) ++ rest) = .ok (r.build b1 b2, rest) := by
  cases hr with
  | noOperand hf _ henc =>
    rw [henc]
    exact decodeBytes_row hmem halt (operands := []) hf.symm rest
  | byteOperand hf _ henc =>
    rw [henc]
    exact decodeBytes_row hmem halt (operands := [b1]) hf.symm rest
  | wordOperand hf _ henc =>
    rw [henc, lo_word, hi_word]
    exact decodeBytes_row hmem halt (operands := [b1, b2]) hf.symm rest

/-! ### Every instruction is documented, the halt or an unknown opcode -/

/-- A row of the table builds the instruction from some operand bytes (30_encoding.md R61). -/
def Instr.Documented (i : Instr) : Prop := ∃ r ∈ opcodeTable, ∃ b1 b2 : Byte, r.build b1 b2 = i

/-- The row is found by the opcode of the instruction's own encoding; `_hop` is there only to name that byte, so that the
table is searched for a literal. -/
theorem documented_of_findRow {i : Instr} {op b1 b2 : Byte} {operands : List Byte} {r : OpRow}
    (_hop : encode none i = op :: operands) (hr : findRow op = some r) (hi : r.build b1 b2 = i) : i.Documented :=
  ⟨r, (mem_of_findRow hr).1, b1, b2, hi⟩

/-- The operand bytes that build an instruction are those it is encoded with: none, one, or an address low byte first. -/
theorem documented_or_hlt_or_unknown (i : Instr) : i.Documented ∨ i = .hlt ∨ ∃ op, i = .unknown op := by
  cases i with
  | inx | iny | dex | dey | tax | tay | txa | tya | tsx | txs | aslAcc | lsrAcc | rolAcc | rorAcc | rts | pha | php
  | pla | plp | brk | rti | clc | cld | cli | clv | sec | sed | sei | nop =>
    exact .inl (documented_of_findRow (b1 := 0) (b2 := 0) rfl rfl rfl)
  | adcImm v | adcZp v | adcZpX v | adcIndX v | adcIndY v | sbcImm v | sbcZp v | sbcZpX v | sbcIndX v | sbcIndY v
  | cmpImm v | cmpZp v | cmpZpX v | cmpIndX v | cmpIndY v | cpxImm v | cpxZp v | cpyImm v | cpyZp v | incZp v
  | incZpX v | decZp v | decZpX v | andImm v | andZp v | andZpX v | andIndX v | andIndY v | eorImm v | eorZp v
  | eorZpX v | eorIndX v | eorIndY v | oraImm v | oraZp v | oraZpX v | oraIndX v | oraIndY v | bitZp v | ldaImm v
  | ldaZp v | ldaZpX v | ldaIndX v | ldaIndY v | ldxImm v | ldxZp v | ldxZpY v | ldyImm v | ldyZp v | ldyZpX v
  | staZp v | staZpX v | staIndX v | staIndY v | stxZp v | stxZpY v | styZp v | styZpX v | aslZp v | aslZpX v
  | lsrZp v | lsrZpX v | rolZp v | rolZpX v | rorZp v | rorZpX v | bcc v | bcs v | beq v | bmi v | bne v | bpl v
  | bvc v | bvs v =>
    exact .inl (documented_of_findRow (b1 := v) (b2 := 0) rfl rfl rfl)
  | adcAbs a | adcAbsX a | adcAbsY a | sbcAbs a | sbcAbsX a | sbcAbsY a | cmpAbs a | cmpAbsX a | cmpAbsY a | cpxAbs a
  | cpyAbs a | incAbs a | incAbsX a | decAbs a | decAbsX a | andAbs a | andAbsX a | andAbsY a | eorAbs a | eorAbsX a
  | eorAbsY a | oraAbs a | oraAbsX a | oraAbsY a | bitAbs a | ldaAbs a | ldaAbsX a | ldaAbsY a | ldxAbs a | ldxAbsY a
  | ldyAbs a | ldyAbsX a | staAbs a | staAbsX a | staAbsY a | stxAbs a | styAbs a | aslAbs a | aslAbsX a | lsrAbs a
  | lsrAbsX a | rolAbs a | rolAbsX a | rorAbs a | rorAbsX a | jmpAbs a | jmpInd a | jsr a =>
    exact .inl (documented_of_findRow rfl rfl (congrArg _ (word_hi_lo a)))
  | hlt => exact .inr (.inl rfl)
  | unknown op => exact .inr (.inr ⟨op, rfl⟩)

theorem wf_hlt_iff {halt : Option Byte} : Instr.hlt.wf halt = true ↔ ∃ h, halt = some h ∧ isUndocumented h = true := by
  cases halt <;> simp [Instr.wf]

theorem wf_unknown_iff {halt : Option Byte} {op : Byte} :
    (Instr.unknown op).wf halt = true ↔ isUndocumented op = true ∧ halt ≠ some op := by
  simp [Instr.wf]

/-- Settles O1: a documented instruction comes from a row, whose build the encoder inverts; the halt and an unknown
opcode are single undocumented bytes. -/
theorem decodeInvertsEncode : Obligations.DecodeInvertsEncode := by
  intro halt i rest hwf
  obtain ⟨r, hr, b1, b2, rfl⟩ | rfl | ⟨op, rfl⟩ := documented_or_hlt_or_unknown i
  · exact (encodes_of_mem_opcodeTable r hr).decodeBytes_encode hr halt b1 b2 rest
  · obtain ⟨h, rfl, hh⟩ := wf_hlt_iff.1 hwf
    exact (decodeBytes_undocumented hh (some h) rest).trans (by rw [if_pos rfl])
  · obtain ⟨hop, hne⟩ := wf_unknown_iff.1 hwf
    exact (decodeBytes_undocumented hop halt rest).trans (by rw [if_neg hne])

/-- Settles O2: a row's build is well-formed and has the row's bytes; an undocumented byte stands for itself. -/
theorem encodeInvertsDecode : Obligations.EncodeInvertsDecode := by
  intro halt op b1 b2
  cases hfind : findRow op with
  | some r =>
    obtain ⟨hr, rfl⟩ := mem_of_findRow hfind
    have henc := encodes_of_mem_opcodeTable r hr
    rw [decode_row hr, opcodeLength_row hr]
    exact ⟨henc.wf_build halt b1 b2, henc.encode_build halt b1 b2⟩
  | none =>
    have hop := (findRow_none_iff op).1 hfind
    rw [decode_undocumented hop, opcodeLength_undocumented hop]
    split
    case isTrue h => subst h; exact ⟨wf_hlt_iff.2 ⟨op, rfl, hop⟩, rfl⟩
    case isFalse h => exact ⟨wf_unknown_iff.2 ⟨hop, h⟩, rfl⟩

theorem isUndocumented_iff_forall_row (op : Byte) :
    isUndocumented op = true ↔ ∀ row ∈ opcodeTable, row.opcode ≠ op := by
  simp [← findRow_none_iff, findRow]

/-- Settles O3: by the table's rows and by the bytes outside it, which are the 105. -/
theorem dispatchHasThreeOutcomes : Obligations.DispatchHasThreeOutcomes :=
  ⟨fun _ hr => decode_row hr, fun halt _ b1 b2 hop => decode_undocumented hop halt b1 b2, isUndocumented_iff_forall_row,
    rfl, rfl, opcodes_nodup, by decide +kernel⟩

/-- Settles O4: each of the seven opcode bytes finds its row. -/
theorem scenarioBytesDecode : Obligations.ScenarioBytesDecode := fun _ _ _ =>
  ⟨decode_of_findRow rfl rfl, decode_of_findRow rfl rfl, decode_of_findRow rfl rfl, decode_of_findRow rfl rfl,
    decode_of_findRow rfl rfl, decode_of_findRow rfl rfl, decode_of_findRow rfl rfl⟩

end Sys2Proof

namespace Sys2Proof.Machine

/-! ### The halt and the unknown opcodes -/

/-- Settles O52: a halt is well-formed only under a HALT_OPCODE, so with NONE no byte decodes to it. -/
theorem hltEndsTheCall : Obligations.HltEndsTheCall := by
  intro s b1 b2
  refine ⟨fun h hhalt hop => ?_, fun hnone op hdec => ?_, ?_⟩
  · rw [decode_undocumented hop, if_pos hhalt]
  · obtain ⟨hwf, -⟩ := encodeInvertsDecode s.cfg.haltOpcode op b1 b2
    rw [hdec, wf_hlt_iff, hnone] at hwf
    obtain ⟨h, hh, -⟩ := hwf
    cases hh
  · simp [State.halting, State.completed, Function.comp_def]

/-- Settles O53: by the decoder on an undocumented byte, and the execution under each policy. -/
theorem unknownOpcodesAreReported : Obligations.UnknownOpcodesAreReported := fun s op b1 b2 =>
  ⟨fun hop hne => (decode_undocumented hop s.cfg.haltOpcode b1 b2).trans (if_neg hne), exec_unknown_proceed op,
    exec_unknown_fault op⟩

/-! ### The cycle columns of the opcode table -/

/-- The cycles the bonus column of a row adds in `s`: the page-cross bonus of 40_engine.md R83. The branch bonus of R84
is not among them. -/
def bonusCycles (r : OpRow) (b1 b2 : Byte) (s : State) : Nat :=
  match r.bonus, operandOf r.form b1 b2 with
  | .pageCross, some o => pageBonus o s
  | _, _ => 0

/-- Unless it is a branch, the instruction of the row gains exactly the cycles its columns name (40_engine.md R81, R83). -/
def CostsAsListed (r : OpRow) : Prop :=
  ∀ (s t : State) (b1 b2 : Byte), r.bonus ≠ .branch → exec (r.build b1 b2) s = .next t →
    t.cyc = s.cyc + (r.base + bonusCycles r b1 b2 s)

/-- For an instruction that always completes, the cost can be read off the state it answers. -/
theorem costsAsListed_of_next {r : OpRow} {u : Byte → Byte → State → State}
    (hexec : ∀ b1 b2 s, exec (r.build b1 b2) s = .next (u b1 b2 s))
    (hcyc : ∀ b1 b2 s, (u b1 b2 s).cyc = s.cyc + (r.base + bonusCycles r b1 b2 s)) : CostsAsListed r := by
  intro s t b1 b2 _ h
  rw [hexec] at h
  cases h
  exact hcyc b1 b2 s

theorem costsAsListed_of_branch {r : OpRow} (h : r.bonus = .branch) : CostsAsListed r :=
  fun _ _ _ _ hne => absurd h hne

theorem adc_cyc {o : Operand} {base : Nat} {s t : State} (h : adc o base s = .next t) :
    t.cyc = s.cyc + (base + pageBonus o s) := by
  obtain ⟨-, rfl⟩ := adc_next.1 h
  rfl

theorem sbc_cyc {o : Operand} {base : Nat} {s t : State} (h : sbc o base s = .next t) :
    t.cyc = s.cyc + (base + pageBonus o s) := by
  obtain ⟨-, rfl⟩ := sbc_next.1 h
  rfl

theorem costs_adcRows : ∀ r ∈ adcRows, CostsAsListed r :=
  List.forall_iff_forall_mem.1 (by and_intros <;> exact fun _ _ _ _ _ h => adc_cyc h)

theorem costs_sbcRows : ∀ r ∈ sbcRows, CostsAsListed r :=
  List.forall_iff_forall_mem.1 (by and_intros <;> exact fun _ _ _ _ _ h => sbc_cyc h)

/-- The rows with the branch bonus (30_encoding.md R61). -/
def branchRows : List OpRow := bccRows ++ bcsRows ++ beqRows ++ bmiRows ++ bneRows ++ bplRows ++ bvcRows ++ bvsRows

theorem costs_branchRows : ∀ r ∈ branchRows, CostsAsListed r :=
  List.forall_iff_forall_mem.1 (by and_intros <;> exact costsAsListed_of_branch rfl)

/-- The rows of the instructions that always complete and always cost the same but for a page cross: those of no branch,
and not of ADC or SBC, which DECIMAL_POLICY = refuse can stop. -/
def steadyRows : List OpRow :=
  loadStoreRows ++ (cmpRows ++ cpxRows ++ cpyRows ++ incRows ++ decRows ++ inxRows ++ inyRows ++ dexRows ++ deyRows) ++
    logicRows ++ shiftRows ++ (jmpRows ++ jsrRows ++ rtsRows) ++ systemRows

/-- Each row's next state is the one its meaning answers, and its CYC computes to the sum of the columns. -/
theorem costs_steadyRows : ∀ r ∈ steadyRows, CostsAsListed r :=
  List.forall_iff_forall_mem.1 (by and_intros <;> exact costsAsListed_of_next (fun _ _ _ => rfl) fun _ _ _ => rfl)

/-- The table sorted by what can vary the cost. -/
theorem mem_opcodeTable_cases {r : OpRow} (h : r ∈ opcodeTable) :
    r ∈ adcRows ∨ r ∈ sbcRows ∨ r ∈ branchRows ∨ r ∈ steadyRows := by
  simp only [opcodeTable, arithmeticRows, controlRows, branchRows, steadyRows, List.mem_append] at h ⊢
  grind

theorem costs_opcodeTable {r : OpRow} (h : r ∈ opcodeTable) : CostsAsListed r := by
  obtain h | h | h | h := mem_opcodeTable_cases h
  · exact costs_adcRows r h
  · exact costs_sbcRows r h
  · exact costs_branchRows r h
  · exact costs_steadyRows r h

/-- Settles O11: the base and the bonus column give the cost, row by row. -/
theorem costsMatchTheTable : Obligations.CostsMatchTheTable := by
  intro s t b1 b2 row hrow hbonus h
  rw [costs_opcodeTable hrow s t b1 b2 hbonus h, ← Nat.add_assoc]
  rfl

end Sys2Proof.Machine

namespace Sys2Proof.Machine

/-! ### A step is its instruction -/

theorem decode_of_decodeBytes {halt : Option Byte} {op : Byte} {operands rest : List Byte} {i : Instr}
    (h : decodeBytes halt (op :: operands) = .ok (i, rest)) :
    decode halt op (operands.getD 0 0) (operands.getD 1 0) = i := by
  rw [decodeBytes] at h
  split at h
  · cases h
  · exact congrArg Prod.fst (Except.ok.inj h)

/-- Settles O5: the three bytes read are the ones the fetch decodes. -/
theorem stepRunsDecodedInstruction : Obligations.StepRunsDecodedInstruction :=
  fun s _ _ h => congrArg (exec · s) (decode_of_decodeBytes h)

/-! ### Every step completes -/

theorem Shape.completes {i : Instr} {g : State → Result} (hg : Shape i g) {s : State} (hs : NoModelStop s) :
    ∃ t, g s = .next t := by
  obtain ⟨hdecimal, hunknown⟩ := hs
  cases hg with
  | adc => exact ⟨_, adc_next.2 ⟨hdecimal, rfl⟩⟩
  | sbc => exact ⟨_, sbc_next.2 ⟨hdecimal, rfl⟩⟩
  | branch => exact ⟨_, branch_next.2 rfl⟩
  | unknown op => exact ⟨_, exec_unknown_next.2 ⟨hunknown, rfl⟩⟩
  | _ => exact ⟨_, rfl⟩

/-- Settles O6: of the shapes an instruction can have, only ADC, SBC and the unknown opcode can stop, each by its
policy. -/
theorem everyStepCompletes : Obligations.EveryStepCompletes :=
  fun s hs => (shape_exec s.nextInstr).completes hs

/-! ### The budget of an Execute call is charged, and nothing else reads it -/

/-- What `f` answers after `r`, unless `r` is a stop. -/
def Result.bind (r : Result) (f : State → Result) : Result :=
  match r with
  | .next t => f t
  | .fault e => .fault e
  | .refused e => .refused e

@[simp] theorem Result.bind_next (t : State) (f : State → Result) : Result.bind (.next t) f = f t := rfl
@[simp] theorem Result.bind_fault (e : Fault) (f : State → Result) : Result.bind (.fault e) f = .fault e := rfl
@[simp] theorem Result.bind_refused (e : Refusal) (f : State → Result) :
    Result.bind (.refused e) f = .refused e := rfl

theorem Result.bind_assoc (r : Result) (f g : State → Result) :
    Result.bind (Result.bind r f) g = Result.bind r fun t => Result.bind (f t) g := by
  cases r <;> rfl

theorem Result.bind_congr {r : Result} {f g : State → Result} (h : ∀ t, r = .next t → f t = g t) :
    Result.bind r f = Result.bind r g := by
  cases r with
  | next t => exact h t rfl
  | fault _ => rfl
  | refused _ => rfl

/-- The answer without the budget the state carries. -/
def Result.dropBudget (r : Result) : Result := Result.bind r fun t => .next t.callEnded

theorem Result.dropBudget_eq_next {r : Result} {t : State} :
    Result.dropBudget r = .next t ↔ ∃ u, r = .next u ∧ u.callEnded = t := by
  cases r <;> simp [Result.dropBudget]

theorem Result.dropBudget_eq_fault {r : Result} {e : Fault} : Result.dropBudget r = .fault e ↔ r = .fault e := by
  cases r <;> simp [Result.dropBudget]

theorem Result.dropBudget_eq_refused {r : Result} {e : Refusal} :
    Result.dropBudget r = .refused e ↔ r = .refused e := by
  cases r <;> simp [Result.dropBudget]

@[simp] theorem State.push_callEnded (s : State) (v : Byte) : s.callEnded.push v = (s.push v).callEnded := rfl
@[simp] theorem State.completed_callEnded (s : State) (len cost : Nat) :
    s.callEnded.completed len cost = (s.completed len cost).callEnded := rfl
@[simp] theorem State.setFlags_callEnded (s : State) (f : Flags) :
    s.callEnded.setFlags f = (s.setFlags f).callEnded := rfl
@[simp] theorem State.setPc_callEnded (s : State) (a : Addr) : s.callEnded.setPc a = (s.setPc a).callEnded := rfl
@[simp] theorem State.read16_callEnded (s : State) (a : Addr) : s.callEnded.read16 a = s.read16 a := rfl
@[simp] theorem State.push16_callEnded (s : State) (w : Addr) : s.callEnded.push16 w = (s.push16 w).callEnded := rfl
@[simp] theorem State.brkReturnAddr_callEnded (s : State) : s.callEnded.brkReturnAddr = s.brkReturnAddr := rfl
@[simp] theorem State.raiseDiag_callEnded (s : State) (d : Diag) :
    s.callEnded.raiseDiag d = (s.raiseDiag d).callEnded := rfl

theorem adc_callEnded (o : Operand) (base : Nat) (s : State) :
    adc o base s.callEnded = Result.dropBudget (adc o base s) := by
  rw [adc, adc, apply_ite Result.dropBudget]
  cases o <;> rfl

theorem sbc_callEnded (o : Operand) (base : Nat) (s : State) :
    sbc o base s.callEnded = Result.dropBudget (sbc o base s) := by
  rw [sbc, sbc, apply_ite Result.dropBudget]
  cases o <;> rfl

theorem branch_callEnded (cond : Bool) (rel : Byte) (s : State) :
    branch cond rel s.callEnded = Result.dropBudget (branch cond rel s) := by
  cases cond <;> rfl

theorem execUnknown_callEnded (op : Byte) (s : State) :
    execUnknown op s.callEnded = Result.dropBudget (execUnknown op s) := by
  cases h : s.cfg.unknown <;> simp [execUnknown, Result.dropBudget, h]

theorem State.takeBreak_callEnded (s : State) : s.callEnded.takeBreak = s.takeBreak.callEnded := by
  simp [State.takeBreak]

/-- No instruction reads the budget. -/
theorem exec_callEnded (i : Instr) (s : State) : exec i s.callEnded = Result.dropBudget (exec i s) := by
  cases i with
  | adcImm | adcZp | adcZpX | adcAbs | adcAbsX | adcAbsY | adcIndX | adcIndY => exact adc_callEnded ..
  | sbcImm | sbcZp | sbcZpX | sbcAbs | sbcAbsX | sbcAbsY | sbcIndX | sbcIndY => exact sbc_callEnded ..
  | bcc | bcs | beq | bmi | bne | bpl | bvc | bvs => exact branch_callEnded ..
  | brk => exact congrArg Host.Outcome.next s.takeBreak_callEnded
  | unknown => exact execUnknown_callEnded ..
  | _ => rfl

/-- What `n` cycles of budget come to by the Step from `s` to `t` (40_engine.md R75): a Halt forces them to 0, any other
Step is charged with what CYC gained. -/
def budgetLeft (n : Int) (s t : State) : Int := if t.outcome = .halt then 0 else n - ((t.cyc : Int) - s.cyc)

theorem budgetLeft_lt {n : Int} (hn : 0 < n) {s t : State} (h : step s = .next t) : budgetLeft n s t < n := by
  obtain ⟨hgain, -⟩ := stepAccountsForItsCycles s t h
  unfold budgetLeft
  split <;> omega

theorem State.eq_withBudget {t u : State} (h : u.callEnded = t.callEnded) {n : Int} (hn : u.remaining = some n) :
    u = t.withBudget n :=
  calc u = u.withBudget n := by rw [State.withBudget, ← hn]
    _ = u.callEnded.withBudget n := rfl
    _ = t.callEnded.withBudget n := by rw [h]

theorem remaining_of_step {s t : State} {n : Int} (h : step (s.withBudget n) = .next t) :
    t.remaining = some (budgetLeft n s t) := by
  obtain ⟨-, -, -, -, hhalt, hcont⟩ := stepAccountsForItsCycles _ t h
  cases ho : t.outcome with
  | halt => simpa [budgetLeft, ho] using hhalt ho
  | cont => simpa [budgetLeft, ho] using hcont ho

/-- A Step under a budget is the Step without one, and charges the budget. -/
theorem step_withBudget (n : Int) (s : State) :
    step (s.withBudget n) = Result.bind (step s) fun t => .next (t.withBudget (budgetLeft n s t)) := by
  have hdrop : Result.dropBudget (step (s.withBudget n)) = Result.dropBudget (step s) :=
    (exec_callEnded s.nextInstr (s.withBudget n)).symm.trans (exec_callEnded s.nextInstr s)
  cases hs : step s with
  | fault e =>
    rw [hs] at hdrop
    exact Result.dropBudget_eq_fault.1 hdrop
  | refused e =>
    rw [hs] at hdrop
    exact Result.dropBudget_eq_refused.1 hdrop
  | next t =>
    rw [hs] at hdrop
    obtain ⟨u, hu, hends⟩ := Result.dropBudget_eq_next.1 hdrop
    have hleft : budgetLeft n s u = budgetLeft n s t := congrArg (budgetLeft n s ·.callEnded) hends
    rw [hu, State.eq_withBudget hends (remaining_of_step hu), hleft, Result.bind_next]

/-! ### The loop of Execute -/

theorem executeLoop_of_nonpos {n : Int} (hn : n ≤ 0) (fuel : Nat) (s : State) :
    executeLoop fuel (s.withBudget n) = .next (s.withBudget n) := by
  cases fuel with
  | zero => rfl
  | succ fuel => simp [executeLoop, State.loopStatus, Int.not_lt.2 hn]

theorem executeLoop_of_pos {n : Int} (hn : 0 < n) (fuel : Nat) (s : State) :
    executeLoop (fuel + 1) (s.withBudget n) =
      Result.bind (step s) fun t => executeLoop fuel (t.withBudget (budgetLeft n s t)) := by
  have hrun : (s.withBudget n).loopStatus = some .running := by simp [State.loopStatus, hn]
  calc executeLoop (fuel + 1) (s.withBudget n)
    _ = Result.bind (step (s.withBudget n)) (executeLoop fuel) := if_pos hrun
    _ = _ := by rw [step_withBudget, Result.bind_assoc]; rfl

/-- A Step costs at least one cycle, so under a budget of `n` any fuel from `n` on gives the same answer. -/
theorem executeLoop_fuel {n : Int} {fuel fuel' : Nat} (h : n.toNat ≤ fuel) (h' : n.toNat ≤ fuel') (s : State) :
    executeLoop fuel (s.withBudget n) = executeLoop fuel' (s.withBudget n) := by
  induction fuel generalizing fuel' n s with
  | zero =>
    have hn : n ≤ 0 := by omega
    rw [executeLoop_of_nonpos hn, executeLoop_of_nonpos hn]
  | succ fuel ih =>
    obtain hn | hn := lt_or_ge 0 n
    · obtain ⟨k, rfl⟩ : ∃ k, fuel' = k + 1 := Nat.exists_eq_add_one.2 (by omega)
      rw [executeLoop_of_pos hn, executeLoop_of_pos hn]
      refine Result.bind_congr fun t ht => ?_
      have hlt := budgetLeft_lt hn ht
      exact ih (by omega) (by omega) t
    · rw [executeLoop_of_nonpos hn, executeLoop_of_nonpos hn]

theorem execute_eq (n : Int) (s : State) :
    execute n s = Result.dropBudget (executeLoop n.toNat (s.withBudget n)) := by
  unfold execute
  cases executeLoop n.toNat (s.withBudget n) <;> rfl

theorem execute_of_nonpos {n : Int} (hn : n ≤ 0) (s : State) : execute n s = .next s.callEnded := by
  rw [execute_eq, executeLoop_of_nonpos hn]
  rfl

/-- The loop equation of 40_engine.md R75. -/
theorem execute_of_pos {n : Int} (hn : 0 < n) (s : State) :
    execute n s = Result.bind (step s) fun t =>
      if t.outcome = .halt then .next t.callEnded else execute (n - ((t.cyc : Int) - s.cyc)) t := by
  obtain ⟨k, hk⟩ : ∃ k, n.toNat = k + 1 := Nat.exists_eq_add_one.2 (by omega)
  rw [execute_eq, hk, executeLoop_of_pos hn, Result.dropBudget, Result.bind_assoc]
  refine Result.bind_congr fun t ht => ?_
  have hlt := budgetLeft_lt hn ht
  calc Result.dropBudget (executeLoop k (t.withBudget (budgetLeft n s t)))
    _ = execute (budgetLeft n s t) t := by rw [execute_eq, executeLoop_fuel (by omega) le_rfl]
    _ = _ := by
      unfold budgetLeft
      split
      · exact execute_of_nonpos le_rfl t
      · rfl

/-- Settles O59: the loop equation, on each answer of the Step. -/
theorem executeIteratesStep : Obligations.ExecuteIteratesStep := by
  intro n s
  refine ⟨fun hn => execute_of_nonpos hn s, fun hn => ⟨fun t h => ?_, fun r h => ?_, fun r h => ?_⟩⟩
  · rw [execute_of_pos hn, h]
    rfl
  · rw [execute_of_pos hn, h]
    rfl
  · rw [execute_of_pos hn, h]
    rfl

end Sys2Proof.Machine

namespace Sys2Proof.Machine

/-! ### Addressing modes -/

theorem byte_add_eq_ofNat (z x : Byte) : z + x = BitVec.ofNat 8 (z.toNat + x.toNat) := by
  rw [BitVec.ofNat_add, BitVec.ofNat_toNat, BitVec.ofNat_toNat, BitVec.setWidth_eq, BitVec.setWidth_eq]

theorem zext16_add (z x : Byte) : zext16 (z + x) = BitVec.ofNat 16 ((z.toNat + x.toNat) % 256) := by
  rw [zext16_eq_ofNat, BitVec.toNat_add]

theorem addr_add_zext16 (base : Addr) (index : Byte) :
    base + zext16 index = BitVec.ofNat 16 ((base.toNat + index.toNat) % 65536) := by
  apply BitVec.eq_of_toNat_eq
  rw [BitVec.toNat_add, zext16_toNat, BitVec.toNat_ofNat, Nat.mod_mod]

theorem pageCross_eq_decide (base ea : Addr) : pageCross base ea = decide (base.toNat / 256 ≠ ea.toNat / 256) := by
  rw [Bool.eq_iff_iff]
  simp [pageCross, ← BitVec.toNat_inj, hi_toNat]

theorem indexed_eq (base : Addr) (index : Byte) :
    indexed base index =
      ⟨.mem (BitVec.ofNat 16 ((base.toNat + index.toNat) % 65536)),
        decide (base.toNat / 256 ≠ (base.toNat + index.toNat) % 65536 / 256)⟩ := by
  rw [indexed, pageCross_eq_decide, addr_add_zext16, BitVec.toNat_ofNat, Nat.mod_mod]

/-- Settles O22: each mode is the sum it takes, in the width it takes it in. -/
theorem addressingModes : Obligations.AddressingModes := by
  intro s z base
  have hzp : resolve (.zeroPage z) s = ⟨.mem (BitVec.ofNat 16 z.toNat), false⟩ := by
    rw [← zext16_eq_ofNat]
    rfl
  have hzpX : resolve (.zeroPageX z) s = ⟨.mem (BitVec.ofNat 16 ((z.toNat + s.x.toNat) % 256)), false⟩ := by
    rw [← zext16_add]
    rfl
  have hzpY : resolve (.zeroPageY z) s = ⟨.mem (BitVec.ofNat 16 ((z.toNat + s.y.toNat) % 256)), false⟩ := by
    rw [← zext16_add]
    rfl
  have hindX : resolve (.indexedIndirect z) s =
      ⟨.mem (s.read16zp (BitVec.ofNat 8 (z.toNat + s.x.toNat))), false⟩ := by
    rw [← byte_add_eq_ofNat]
    rfl
  exact ⟨rfl, rfl, hzp, hzpX, hzpY, rfl, indexed_eq base s.x, indexed_eq base s.y, rfl, hindX,
    indexed_eq (s.read16zp z) s.y, rfl, rfl, rfl, rfl, rfl⟩

/-! ### The branch target -/

theorem sext16_toNat (b : Byte) : (sext16 b).toNat = if b.toNat < 0x80 then b.toNat else b.toNat + 0xFF00 := by
  have hb := b.isLt
  have hzext : (b.setWidth 16).toNat = b.toNat := zext16_toNat b
  rw [sext16, BitVec.toNat_signExtend, hzext]
  by_cases h : b.toNat < 0x80
  · have hmsb : b.msb = false := BitVec.msb_eq_false_iff_two_mul_lt.2 (by omega)
    simp [h, hmsb]
  · have hmsb : b.msb = true := BitVec.msb_eq_true_iff_two_mul_ge.2 (by omega)
    simp [h, hmsb]

/-- Settles O23: the offset is sign-extended, and the sum wraps. -/
theorem branchTargetIsSigned : Obligations.BranchTargetIsSigned := by
  intro rel next
  rw [branchTarget, BitVec.toNat_add, sext16_toNat]

/-! ### The sign bit of a byte -/

theorem bit7_eq_decide (v : Byte) : bit7 v = decide (0x80 ≤ v.toNat) :=
  v.msb_eq_getLsbD_last.symm.trans (BitVec.msb_eq_decide v)

/-- The mask 0x80 of the overflow formulas keeps the sign bit alone. -/
theorem and_0x80_bne_zero (v : Byte) : (v &&& 0x80 != 0) = v.msb := by
  have hmask : v &&& 0x80 = if v.msb then 0x80 else 0 := by
    rw [BitVec.msb_eq_getLsbD_last]
    exact BitVec.and_twoPow v 7
  rw [hmask]
  cases v.msb <;> rfl

theorem complement_toNat (v : Byte) : (~~~v).toNat = 255 - v.toNat := BitVec.toNat_not

theorem complement_toInt (v : Byte) : (~~~v).toInt = -v.toInt - 1 := by
  have hv := v.isLt
  simp only [BitVec.toInt_eq_toNat_cond, complement_toNat]
  omega

/-! ### The adder and the subtractor -/

theorem aluAdd_r_toNat (a b : Byte) (c : Bool) : (aluAdd a b c).r.toNat = (a.toNat + b.toNat + bit c) % 256 :=
  BitVec.toNat_ofNat ..

/-- The overflow formula of 40_engine.md R102 by signs: those of the operands agree, and the result has the other. -/
theorem aluAdd_v (a b : Byte) (c : Bool) :
    (aluAdd a b c).v = (!(a.msb ^^ b.msb) && (a.msb ^^ (aluAdd a b c).r.msb)) := by
  refine (and_0x80_bne_zero (~~~(a ^^^ b) &&& (a ^^^ (aluAdd a b c).r))).trans ?_
  rw [BitVec.msb_and, BitVec.msb_not, BitVec.msb_xor, BitVec.msb_xor]
  simp

/-- A sign is a comparison with 0x80, so both sides are linear in the three bytes. -/
theorem aluAdd_v_iff (a b : Byte) (c : Bool) :
    (aluAdd a b c).v = true ↔ (aluAdd a b c).r.toInt ≠ a.toInt + b.toInt + bit c := by
  have hr := aluAdd_r_toNat a b c
  have hc := bit_le_one c
  have ha := a.isLt
  have hb := b.isLt
  simp only [aluAdd_v, BitVec.msb_eq_decide, BitVec.toInt_eq_toNat_cond]
  grind

/-- Settles O25: the signed sum leaves the range of a byte only where the operands agree in sign and the result does
not. -/
theorem adderIsExact : Obligations.AdderIsExact :=
  fun a b c => ⟨aluAdd_r_toNat a b c, rfl, rfl, aluAdd_v_iff a b c⟩

/-- Subtracting is adding the complement, in all three outputs (41_arithmetic.md R120). -/
theorem aluSub_eq_aluAdd_complement (a b : Byte) (c : Bool) : aluSub a b c = aluAdd a (~~~b) c := by
  have hb := b.isLt
  have hr : BitVec.ofInt 8 ((a.toNat : Int) - b.toNat - (1 - bit c)) =
      BitVec.ofNat 8 (a.toNat + (~~~b).toNat + bit c) := by
    apply BitVec.eq_of_toNat_eq
    rw [BitVec.toNat_ofInt, BitVec.toNat_ofNat, complement_toNat]
    omega
  have hcout : (a.toNat : Int) - b.toNat - (1 - bit c) ≥ 0 ↔ a.toNat + (~~~b).toNat + bit c > 0xFF := by
    rw [complement_toNat]
    omega
  have hsigns : a ^^^ b = ~~~(a ^^^ ~~~b) := by rw [BitVec.not_xor_right, BitVec.not_not]
  simp only [aluSub, aluAdd, hr, hcout, hsigns]

theorem aluSub_r_toNat (a b : Byte) (c : Bool) :
    ((aluSub a b c).r.toNat : Int) = ((a.toNat : Int) - b.toNat - (1 - bit c)) % 256 := by
  have hb := b.isLt
  rw [aluSub_eq_aluAdd_complement, aluAdd_r_toNat, complement_toNat]
  omega

theorem aluSub_cout (a b : Byte) (c : Bool) :
    (aluSub a b c).cout = decide (a.toNat ≥ b.toNat + (1 - bit c)) := by
  have hc := bit_le_one c
  exact decide_eq_decide.2 (by omega)

theorem aluSub_v_iff (a b : Byte) (c : Bool) :
    (aluSub a b c).v = true ↔ (aluSub a b c).r.toInt ≠ a.toInt - b.toInt - (1 - bit c) := by
  have hdiff : a.toInt - b.toInt - (1 - bit c) = a.toInt + (~~~b).toInt + bit c := by
    rw [complement_toInt]
    omega
  rw [hdiff, aluSub_eq_aluAdd_complement, aluAdd_v_iff]

/-- Settles O26: the signed difference is the signed sum with the complement, so it overflows where that sum does. -/
theorem subtractorIsExact : Obligations.SubtractorIsExact :=
  fun a b c => ⟨aluSub_r_toNat a b c, aluSub_cout a b c, rfl, aluSub_v_iff a b c⟩

/-! ### The comparator and the flag helpers -/

theorem byte_sub_toNat (r m : Byte) : ((r - m).toNat : Int) = ((r.toNat : Int) - m.toNat) % 256 := by
  have hm := m.isLt
  rw [BitVec.toNat_sub]
  omega

theorem compare_eq_decide (f : Flags) (r m : Byte) :
    f.compare r m =
      { f with c := decide (m.toNat ≤ r.toNat), z := decide (r = m),
               n := decide (0x80 ≤ ((r.toNat : Int) - m.toNat) % 256) } := by
  have hn : bit7 (r - m) = decide (0x80 ≤ ((r.toNat : Int) - m.toNat) % 256) := by
    rw [bit7_eq_decide, ← byte_sub_toNat]
    exact decide_eq_decide.2 (by omega)
  rw [Flags.compare, hn]
  rfl

theorem setZN_eq_decide (f : Flags) (v : Byte) :
    f.setZN v = { f with z := decide (v.toNat = 0), n := decide (0x80 ≤ v.toNat) } := by
  have hz : (v == 0) = decide (v.toNat = 0) := by
    rw [Bool.eq_iff_iff]
    simp [← BitVec.toNat_inj]
  rw [Flags.setZN, bit7_eq_decide, hz]

/-- Settles O27: the sign bit is the comparison with 0x80, and the byte's own arithmetic is that modulo 256. -/
theorem comparatorAndHelpers : Obligations.ComparatorAndHelpers :=
  fun f r m => ⟨compare_eq_decide f r m, setZN_eq_decide f r, BitVec.toNat_add r 1, byte_sub_toNat r 1⟩

/-! ### The shifter -/

theorem getLsbD_zero_eq_decide (v : Byte) : v.getLsbD 0 = decide (v.toNat % 2 = 1) := Nat.testBit_zero v.toNat

theorem lsr_r_toNat (v : Byte) : (lsr v).r.toNat = v.toNat / 2 := by
  have hv := v.isLt
  exact (BitVec.toNat_ofNat ..).trans (Nat.mod_eq_of_lt (by omega))

theorem ror_r_toNat (v : Byte) (c : Bool) : (ror v c).r.toNat = v.toNat / 2 + bit c * 0x80 := by
  have hv := v.isLt
  have hc := bit_le_one c
  exact (BitVec.toNat_ofNat ..).trans (Nat.mod_eq_of_lt (by omega))

/-- Settles O28: a left shift wraps, a right shift has room for the carry it takes in. -/
theorem shifterIsExact : Obligations.ShifterIsExact :=
  fun v c => ⟨BitVec.toNat_ofNat .., bit7_eq_decide v, lsr_r_toNat v, getLsbD_zero_eq_decide v, BitVec.toNat_ofNat ..,
    bit7_eq_decide v, ror_r_toNat v c, getLsbD_zero_eq_decide v⟩

end Sys2Proof.Machine

namespace Sys2Proof.Machine

/-! ### The stops of a step -/

theorem adc_refused {s : State} (h : DecimalRefused s) (o : Operand) (base : Nat) :
    adc o base s = .refused .decimalMode := if_pos h

theorem sbc_refused {s : State} (h : DecimalRefused s) (o : Operand) (base : Nat) :
    sbc o base s = .refused .decimalMode := if_pos h

/-- What an instruction can answer: a next state, or the stop of one of the two policies of 00_scope.md R6. -/
theorem exec_answers (i : Instr) (s : State) :
    (∃ t, exec i s = .next t) ∨
    (exec i s = .refused .decimalMode ∧ DecimalRefused s ∧ (mnemonicOf i = .adc ∨ mnemonicOf i = .sbc)) ∨
    (∃ op, i = .unknown op ∧ s.cfg.unknown = .fault ∧ exec i s = .fault (.unknownOpcode op)) := by
  cases i with
  | adcImm | adcZp | adcZpX | adcAbs | adcAbsX | adcAbsY | adcIndX | adcIndY =>
    by_cases h : DecimalRefused s
    · exact .inr (.inl ⟨adc_refused h .., h, .inl rfl⟩)
    · exact .inl ⟨_, adc_next.2 ⟨h, rfl⟩⟩
  | sbcImm | sbcZp | sbcZpX | sbcAbs | sbcAbsX | sbcAbsY | sbcIndX | sbcIndY =>
    by_cases h : DecimalRefused s
    · exact .inr (.inl ⟨sbc_refused h .., h, .inr rfl⟩)
    · exact .inl ⟨_, sbc_next.2 ⟨h, rfl⟩⟩
  | bcc | bcs | beq | bmi | bne | bpl | bvc | bvs => exact .inl ⟨_, branch_next.2 rfl⟩
  | unknown op =>
    cases h : s.cfg.unknown with
    | proceed => exact .inl ⟨_, exec_unknown_proceed op h⟩
    | fault => exact .inr (.inr ⟨op, rfl, rfl, exec_unknown_fault op h⟩)
  | _ => exact .inl ⟨_, rfl⟩

/-- An unknown opcode is the byte it was decoded from. -/
theorem decode_eq_unknown {halt : Option Byte} {op op' b1 b2 : Byte} (h : decode halt op b1 b2 = .unknown op') :
    isUndocumented op = true ∧ op' = op := by
  obtain ⟨hwf, henc⟩ := encodeInvertsDecode halt op b1 b2
  rw [h] at hwf henc
  have hhead : some op' = ([op, b1, b2].take (opcodeLength op)).head? := congrArg List.head? henc
  rw [List.head?_take] at hhead
  split at hhead <;> cases hhead
  exact ⟨(wf_unknown_iff.1 hwf).1, rfl⟩

/-- Settles O7: each of the two stops an instruction can answer is under its policy, and the opcode a fault names is the
byte fetched. -/
theorem onlyPolicyStops : Obligations.OnlyPolicyStops := by
  intro s
  obtain ⟨t, h⟩ | ⟨h, hdecimal, hmnemonic⟩ | ⟨op, hop, hpolicy, h⟩ := exec_answers s.nextInstr s
  · exact ⟨fun _ hr => (nomatch h.symm.trans hr), fun _ hr => nomatch h.symm.trans hr⟩
  · refine ⟨fun _ hr => (nomatch h.symm.trans hr), fun _ hr => ?_⟩
    cases h.symm.trans hr
    exact ⟨rfl, hdecimal, hmnemonic⟩
  · refine ⟨fun _ hr => ?_, fun _ hr => nomatch h.symm.trans hr⟩
    obtain ⟨hundocumented, hbyte⟩ := decode_eq_unknown hop
    cases h.symm.trans hr
    exact ⟨hpolicy, hundocumented, congrArg _ hbyte⟩

/-! ### The laws of the adder, the subtractor and the comparator -/

/-- Law 3 of 41_arithmetic.md R120, under either DECIMAL_POLICY. -/
theorem sbc_immediate_eq_adc_complement (m : Byte) (base : Nat) (s : State) :
    sbc (.immediate m) base s = adc (.immediate (~~~m)) base s := by
  by_cases h : DecimalRefused s
  · rw [sbc_refused h, adc_refused h]
  · rw [adc_next.2 ⟨h, rfl⟩, sbc_next, aluSub_eq_aluAdd_complement]
    exact ⟨h, rfl⟩

theorem bit_not (c : Bool) : bit (!c) = 1 - bit c := by cases c <;> rfl

/-- Law 4 of 41_arithmetic.md R120. -/
theorem aluSub_aluAdd_r (a m : Byte) (c : Bool) : (aluSub (aluAdd a m c).r m (!c)).r = a := by
  have ha := a.isLt
  have hc := bit_le_one c
  have hr := aluSub_r_toNat (aluAdd a m c).r m (!c)
  rw [aluAdd_r_toNat, bit_not] at hr
  apply BitVec.eq_of_toNat_eq
  omega

/-- Without a borrow in, the subtractor gives the byte difference. -/
theorem aluSub_true_r (r m : Byte) : (aluSub r m true).r = r - m := by
  have hone : bit true = 1 := rfl
  have hr := aluSub_r_toNat r m true
  have hdiff := byte_sub_toNat r m
  apply BitVec.eq_of_toNat_eq
  omega

/-- Law 5 of 41_arithmetic.md R120. -/
theorem compare_eq_setAlu (f : Flags) (r m : Byte) :
    f.compare r m = { f.setAlu (aluSub r m true) with v := f.v } := by
  have hz : (r == m) = (r - m == 0) := by
    rw [Bool.eq_iff_iff, beq_iff_eq, beq_iff_eq, sub_eq_zero]
  rw [Flags.compare, Flags.setAlu, Flags.setZN, aluSub_true_r, aluSub_cout, hz]
  rfl

/-- Settles O29: the three laws. -/
theorem arithmeticLaws : Obligations.ArithmeticLaws :=
  ⟨fun s m => sbc_immediate_eq_adc_complement m 2 s, aluSub_aluAdd_r, compare_eq_setAlu⟩

/-! ### The rows of the table that share an operation -/

/-- The row is its opcode's in the table, and its instruction runs `g` on the row's operand and base cycles. -/
structure RunsOnOperand (g : Operand → Nat → State → Result) (r : OpRow) : Prop where
  found : findRow r.opcode = some r
  runs : ∀ b1 b2 : Byte, ∃ o, operandOf r.form b1 b2 = some o ∧ ∀ s, exec (r.build b1 b2) s = g o r.base s

theorem length_of_operandOf {f : Form} {b1 b2 : Byte} {o : Operand} (h : operandOf f b1 b2 = some o) :
    o.length = f.length := by
  cases f <;> cases h <;> rfl

theorem RunsOnOperand.exists_operand {g : Operand → Nat → State → Result} {r : OpRow} (hr : RunsOnOperand g r)
    (halt : Option Byte) (b1 b2 : Byte) :
    ∃ o, operandOf r.form b1 b2 = some o ∧ o.length = r.form.length ∧ decode halt r.opcode b1 b2 = r.build b1 b2 ∧
      ∀ s, exec (r.build b1 b2) s = g o r.base s := by
  obtain ⟨o, ho, hexec⟩ := hr.runs b1 b2
  exact ⟨o, ho, length_of_operandOf ho, decode_of_findRow hr.found rfl, hexec⟩

/-- A read rule is what the one operation of its rows answers. -/
theorem readRule_of_runs {rows : List OpRow} {g : Operand → Nat → State → Result} {effect : Byte → State → State}
    (hrows : rows.Forall (RunsOnOperand g))
    (hg : ∀ o base s, g o base s = .next (effect (operandValue o s) (s.completed o.length (base + pageBonus o s)))) :
    ReadRule rows effect := by
  intro s b1 b2 row hrow
  obtain ⟨o, ho, hlen, hdecode, hexec⟩ :=
    (List.forall_iff_forall_mem.1 hrows row hrow).exists_operand s.cfg.haltOpcode b1 b2
  exact ⟨o, ho, hdecode, by rw [hexec, hg, hlen]⟩

/-- A read rule with the refusal of DECIMAL_POLICY = refuse is what the one operation of its rows answers. -/
theorem decimalReadRule_of_runs {rows : List OpRow} {g : Operand → Nat → State → Result}
    {effect : Byte → State → State} (hrows : rows.Forall (RunsOnOperand g))
    (hg : ∀ o base s, ¬ DecimalRefused s →
      g o base s = .next (effect (operandValue o s) (s.completed o.length (base + pageBonus o s))))
    (hrefused : ∀ o base s, DecimalRefused s → g o base s = .refused .decimalMode) :
    DecimalReadRule rows effect := by
  intro s b1 b2 row hrow
  obtain ⟨o, ho, hlen, hdecode, hexec⟩ :=
    (List.forall_iff_forall_mem.1 hrows row hrow).exists_operand s.cfg.haltOpcode b1 b2
  exact ⟨o, ho, hdecode, fun h => by rw [hexec, hg o _ s h, hlen], fun h => by rw [hexec, hrefused o _ s h]⟩

/-- A modify rule is what the one operation of its rows answers. -/
theorem modifyRule_of_runs {rows : List OpRow} {g : Operand → Nat → State → Result} {f : Byte → Bool → Byte}
    {newFlags : Byte → Byte → Flags → Flags} (hrows : rows.Forall (RunsOnOperand g))
    (hg : ∀ o base s, g o base s =
      modifyClass o base (f (operandValue o s) s.flags.c)
        (newFlags (operandValue o s) (f (operandValue o s) s.flags.c) s.flags) s) :
    ModifyRule rows f newFlags := by
  intro s b1 b2 row hrow
  obtain ⟨o, ho, hlen, hdecode, hexec⟩ :=
    (List.forall_iff_forall_mem.1 hrows row hrow).exists_operand s.cfg.haltOpcode b1 b2
  exact ⟨o, ho, hdecode, by rw [hexec, hg, modifyClass, hlen]; rfl⟩

theorem adcRows_run : adcRows.Forall (RunsOnOperand adc) := by
  and_intros <;> exact ⟨rfl, fun _ _ => ⟨_, rfl, fun _ => rfl⟩⟩

theorem sbcRows_run : sbcRows.Forall (RunsOnOperand sbc) := by
  and_intros <;> exact ⟨rfl, fun _ _ => ⟨_, rfl, fun _ => rfl⟩⟩

theorem cmpRows_run : cmpRows.Forall (RunsOnOperand fun o base s => compareWith s.a o base s) := by
  and_intros <;> exact ⟨rfl, fun _ _ => ⟨_, rfl, fun _ => rfl⟩⟩

theorem cpxRows_run : cpxRows.Forall (RunsOnOperand fun o base s => compareWith s.x o base s) := by
  and_intros <;> exact ⟨rfl, fun _ _ => ⟨_, rfl, fun _ => rfl⟩⟩

theorem cpyRows_run : cpyRows.Forall (RunsOnOperand fun o base s => compareWith s.y o base s) := by
  and_intros <;> exact ⟨rfl, fun _ _ => ⟨_, rfl, fun _ => rfl⟩⟩

theorem incRows_run : incRows.Forall (RunsOnOperand (step8 inc8)) := by
  and_intros <;> exact ⟨rfl, fun _ _ => ⟨_, rfl, fun _ => rfl⟩⟩

theorem decRows_run : decRows.Forall (RunsOnOperand (step8 dec8)) := by
  and_intros <;> exact ⟨rfl, fun _ _ => ⟨_, rfl, fun _ => rfl⟩⟩

/-- Settles O30: every row runs `adc`, which answers the adder's result unless it is refused. -/
theorem adcAddsWithCarry : Obligations.AdcAddsWithCarry :=
  decimalReadRule_of_runs adcRows_run (fun _ _ _ h => adc_next.2 ⟨h, rfl⟩) fun o base _ h => adc_refused h o base

/-- Settles O31: every row runs `sbc`, which answers the subtractor's result unless it is refused. -/
theorem sbcSubtractsWithBorrow : Obligations.SbcSubtractsWithBorrow :=
  decimalReadRule_of_runs sbcRows_run (fun _ _ _ h => sbc_next.2 ⟨h, rfl⟩) fun o base _ h => sbc_refused h o base

/-- Settles O32: every row runs `compareWith` on its register, and that writes the comparator's flags alone. -/
theorem comparesSetFlagsOnly : Obligations.ComparesSetFlagsOnly :=
  ⟨readRule_of_runs cmpRows_run fun _ _ _ => rfl, readRule_of_runs cpxRows_run fun _ _ _ => rfl,
    readRule_of_runs cpyRows_run fun _ _ _ => rfl⟩

/-! ### Increment and decrement -/

theorem inc8_eq_ofNat (v : Byte) : inc8 v = BitVec.ofNat 8 (v.toNat + 1) := byte_add_eq_ofNat v 1

theorem dec8_eq_ofNat (v : Byte) : dec8 v = BitVec.ofNat 8 (v.toNat + 255) :=
  (sub_eq_add_neg v 1).trans (byte_add_eq_ofNat v (-1))

/-- Settles O33: every row runs `step8`, and adding or subtracting 1 wraps. -/
theorem incDecMemory : Obligations.IncDecMemory :=
  ⟨modifyRule_of_runs incRows_run fun _ _ _ => by rw [step8, inc8_eq_ofNat]; rfl,
    modifyRule_of_runs decRows_run fun _ _ _ => by rw [step8, dec8_eq_ofNat]; rfl⟩

/-- The increment wraps to zero from 0xFF and from no other byte. -/
theorem setZN_inc8 (f : Flags) (v : Byte) :
    f.setZN (inc8 v) = { f with z := decide (v = 0xFF), n := (v + 1).getLsbD 7 } := by
  have hz : (v + 1 == 0) = decide (v = 0xFF) := by
    rw [Bool.eq_iff_iff, beq_iff_eq, decide_eq_true_iff, add_eq_zero_iff_eq_neg]
    rfl
  rw [inc8, Flags.setZN, hz]
  rfl

/-- The decrement reaches zero from 1 and from no other byte. -/
theorem setZN_dec8 (f : Flags) (v : Byte) :
    f.setZN (dec8 v) = { f with z := decide (v = 1), n := (v - 1).getLsbD 7 } := by
  have hz : (v - 1 == 0) = decide (v = 1) := by
    rw [Bool.eq_iff_iff, beq_iff_eq, decide_eq_true_iff, sub_eq_zero]
  rw [dec8, Flags.setZN, hz]
  rfl

/-- Settles O34: each opcode finds its row, and the flags are those of the increment or decrement. -/
theorem incDecIndexRegisters : Obligations.IncDecIndexRegisters :=
  ⟨fun _ _ _ => ⟨decode_of_findRow rfl rfl, by rw [exec_inx, execInx, implied, State.setZN, setZN_inc8]; rfl⟩,
    fun _ _ _ => ⟨decode_of_findRow rfl rfl, by rw [exec_iny, execIny, implied, State.setZN, setZN_inc8]; rfl⟩,
    fun _ _ _ => ⟨decode_of_findRow rfl rfl, by rw [exec_dex, execDex, implied, State.setZN, setZN_dec8]; rfl⟩,
    fun _ _ _ => ⟨decode_of_findRow rfl rfl, by rw [exec_dey, execDey, implied, State.setZN, setZN_dec8]; rfl⟩⟩

end Sys2Proof.Machine

namespace Sys2Proof.Machine

/-! ### Logic (42_logic.md) -/

theorem andRows_run : andRows.Forall (RunsOnOperand (combine fun a m => a &&& m)) := by
  and_intros <;> exact ⟨rfl, fun _ _ => ⟨_, rfl, fun _ => rfl⟩⟩

theorem eorRows_run : eorRows.Forall (RunsOnOperand (combine fun a m => a ^^^ m)) := by
  and_intros <;> exact ⟨rfl, fun _ _ => ⟨_, rfl, fun _ => rfl⟩⟩

theorem oraRows_run : oraRows.Forall (RunsOnOperand (combine fun a m => a ||| m)) := by
  and_intros <;> exact ⟨rfl, fun _ _ => ⟨_, rfl, fun _ => rfl⟩⟩

theorem bitRows_run : bitRows.Forall (RunsOnOperand bitTest) := by
  and_intros <;> exact ⟨rfl, fun _ _ => ⟨_, rfl, fun _ => rfl⟩⟩

/-- The read rule of rows that combine A with the operand, from what the combination's Z and N are. -/
theorem readRule_of_combine {rows : List OpRow} {f : Byte → Byte → Byte} {z n : Byte → Byte → Bool}
    (hrows : rows.Forall (RunsOnOperand (combine f))) (hz : ∀ a m, (f a m == 0) = z a m)
    (hn : ∀ a m, (f a m).getLsbD 7 = n a m) :
    ReadRule rows fun m t =>
      { t with a := f t.a m, flags := { t.flags with z := z t.a m, n := n t.a m } } :=
  readRule_of_runs hrows fun _ _ _ => by rw [← hz, ← hn]; rfl

theorem xor_beq_zero (a m : Byte) : (a ^^^ m == 0) = decide (a = m) := by
  rw [Bool.eq_iff_iff, beq_iff_eq, decide_eq_true_iff]
  exact BitVec.xor_eq_zero_iff

theorem or_beq_zero (a m : Byte) : (a ||| m == 0) = decide (a = 0 ∧ m = 0) := by
  rw [Bool.eq_iff_iff, beq_iff_eq, decide_eq_true_iff]
  exact BitVec.or_eq_zero_iff

/-- Settles O35: every row runs `combine` with its bitwise operation, which acts on bit 7 as on every bit; an exclusive
OR is zero for equal bytes only, and an OR for two zeros only. -/
theorem logicOnAccumulator : Obligations.LogicOnAccumulator :=
  ⟨readRule_of_combine andRows_run (fun _ _ => rfl) fun _ _ => BitVec.getLsbD_and,
    readRule_of_combine eorRows_run xor_beq_zero fun _ _ => BitVec.getLsbD_xor,
    readRule_of_combine oraRows_run or_beq_zero fun _ _ => BitVec.getLsbD_or⟩

/-- Settles O36: both rows run `bitTest`, which writes Z, N and V alone. -/
theorem bitTestsOperand : Obligations.BitTestsOperand := readRule_of_runs bitRows_run fun _ _ _ => rfl

end Sys2Proof.Machine

namespace Sys2Proof.Machine

/-! ### Loads, stores and transfers (43_load_store_transfer.md) -/

theorem ldaRows_run : ldaRows.Forall (RunsOnOperand lda) := by
  and_intros <;> exact ⟨rfl, fun _ _ => ⟨_, rfl, fun _ => rfl⟩⟩

theorem ldxRows_run : ldxRows.Forall (RunsOnOperand ldx) := by
  and_intros <;> exact ⟨rfl, fun _ _ => ⟨_, rfl, fun _ => rfl⟩⟩

theorem ldyRows_run : ldyRows.Forall (RunsOnOperand ldy) := by
  and_intros <;> exact ⟨rfl, fun _ _ => ⟨_, rfl, fun _ => rfl⟩⟩

/-- Settles O37: every row runs the load of its register, which writes the operand byte to that register and Z and N. -/
theorem loadsSetRegisterAndZN : Obligations.LoadsSetRegisterAndZN :=
  ⟨readRule_of_runs ldaRows_run fun _ _ _ => rfl, readRule_of_runs ldxRows_run fun _ _ _ => rfl,
    readRule_of_runs ldyRows_run fun _ _ _ => rfl⟩

/-- Of the forms with an operand, only Accumulator and Immediate resolve to something else than a memory address. -/
theorem exists_mem_of_operandOf {f : Form} {b1 b2 : Byte} {o : Operand} (ho : operandOf f b1 b2 = some o)
    (hf : f ≠ .accumulator ∧ f ≠ .immediate) (s : State) : ∃ ea, (resolve o s).loc = .mem ea := by
  cases f with
  | implied | relative => cases ho
  | accumulator | immediate => simp at hf
  | _ => cases ho; exact ⟨_, rfl⟩

/-- A store rule is the store of the register on rows whose forms resolve to memory. -/
theorem storeRule_of_runs {rows : List OpRow} {reg : State → Byte}
    (hrows : rows.Forall (RunsOnOperand fun o base s => storeClass o base (reg s) s))
    (hforms : ∀ r ∈ rows, r.form ≠ .accumulator ∧ r.form ≠ .immediate) : StoreRule rows reg := by
  intro s b1 b2 row hrow
  obtain ⟨o, ho, hlen, hdecode, hexec⟩ :=
    (List.forall_iff_forall_mem.1 hrows row hrow).exists_operand s.cfg.haltOpcode b1 b2
  obtain ⟨ea, hea⟩ := exists_mem_of_operandOf ho (hforms row hrow) s
  exact ⟨o, ea, ho, hea, hdecode, by rw [hexec, storeClass, hlen, hea, writeOperand]⟩

theorem staRows_run : staRows.Forall (RunsOnOperand fun o base s => storeClass o base s.a s) := by
  and_intros <;> exact ⟨rfl, fun _ _ => ⟨_, rfl, fun _ => rfl⟩⟩

theorem stxRows_run : stxRows.Forall (RunsOnOperand fun o base s => storeClass o base s.x s) := by
  and_intros <;> exact ⟨rfl, fun _ _ => ⟨_, rfl, fun _ => rfl⟩⟩

theorem styRows_run : styRows.Forall (RunsOnOperand fun o base s => storeClass o base s.y s) := by
  and_intros <;> exact ⟨rfl, fun _ _ => ⟨_, rfl, fun _ => rfl⟩⟩

/-- Settles O38: every row runs the store of its register, at a form that resolves to a memory address. -/
theorem storesWriteOneByte : Obligations.StoresWriteOneByte :=
  ⟨storeRule_of_runs staRows_run (by decide), storeRule_of_runs stxRows_run (by decide),
    storeRule_of_runs styRows_run (by decide)⟩

/-- An implied rule is the opcode's row and the update its instruction runs. -/
theorem impliedRule_of_findRow {op : Byte} {r : OpRow} {i : Instr} {effect : State → State}
    (hfound : findRow op = some r) (hbuild : ∀ b1 b2, r.build b1 b2 = i)
    (hexec : ∀ s, exec i s = implied effect s) : ImpliedRule op i effect :=
  fun s b1 b2 => ⟨decode_of_findRow hfound (hbuild b1 b2), hexec s⟩

/-- Settles O39: each opcode finds its row, whose instruction copies the one register and, but for TXS, sets Z and N from
the byte copied. -/
theorem transfersCopyRegisters : Obligations.TransfersCopyRegisters := by
  and_intros <;> exact impliedRule_of_findRow rfl (fun _ _ => rfl) fun _ => rfl

end Sys2Proof.Machine

namespace Sys2Proof.Machine

/-! ### Shifts and rotates (44_shift_rotate.md) -/

theorem aslRows_run : aslRows.Forall (RunsOnOperand (shift fun v _ => asl v)) := by
  and_intros <;> exact ⟨rfl, fun _ _ => ⟨_, rfl, fun _ => rfl⟩⟩

theorem lsrRows_run : lsrRows.Forall (RunsOnOperand (shift fun v _ => lsr v)) := by
  and_intros <;> exact ⟨rfl, fun _ _ => ⟨_, rfl, fun _ => rfl⟩⟩

theorem rolRows_run : rolRows.Forall (RunsOnOperand (shift rol)) := by
  and_intros <;> exact ⟨rfl, fun _ _ => ⟨_, rfl, fun _ => rfl⟩⟩

theorem rorRows_run : rorRows.Forall (RunsOnOperand (shift ror)) := by
  and_intros <;> exact ⟨rfl, fun _ _ => ⟨_, rfl, fun _ => rfl⟩⟩

theorem lsr_r_bit7 (v : Byte) : bit7 (lsr v).r = false := by
  have hv := v.isLt
  rw [bit7_eq_decide, lsr_r_toNat]
  exact decide_eq_false (by omega)

/-- The old carry enters a rotate right at bit 7. -/
theorem ror_r_bit7 (v : Byte) (c : Bool) : bit7 (ror v c).r = c := by
  have hhalf : v.toNat / 2 < 0x80 := by have hv := v.isLt; omega
  rw [bit7_eq_decide, ror_r_toNat]
  cases c with
  | false => simpa [bit] using hhalf
  | true => simp [bit]

/-- Settles O40: every row runs `shift` with its shifter; a left shift's N is its result's own bit 7, a right shift's is
the bit that enters there. -/
theorem shiftsMoveOneBit : Obligations.ShiftsMoveOneBit :=
  ⟨modifyRule_of_runs aslRows_run fun _ _ _ => rfl,
    modifyRule_of_runs lsrRows_run fun _ _ _ => by rw [shift, Flags.setShift, Flags.setZN, lsr_r_bit7]; rfl,
    modifyRule_of_runs rolRows_run fun _ _ _ => rfl,
    modifyRule_of_runs rorRows_run fun _ _ _ => by rw [shift, Flags.setShift, Flags.setZN, ror_r_bit7]; rfl⟩

end Sys2Proof.Machine

namespace Sys2Proof.Machine

/-! ### Control transfer (45_control.md) -/

theorem word_eq_ofNat (h l : Byte) : word h l = BitVec.ofNat 16 (h.toNat * 256 + l.toNat) := by
  rw [← word_toNat, BitVec.ofNat_toNat, BitVec.setWidth_eq]

/-- The target of a branch as one signed sum from the branch's own address (40_engine.md R99). -/
theorem branchTarget_add_two_toNat (rel : Byte) (pc : Addr) :
    ((branchTarget rel (pc + 2)).toNat : Int) = ((pc.toNat : Int) + 2 + rel.toInt) % 65536 := by
  have hrel := rel.isLt
  have hnext : (pc + 2).toNat = (pc.toNat + 2) % 65536 := BitVec.toNat_add pc 2
  have htarget := branchTargetIsSigned rel (pc + 2)
  rw [BitVec.toInt_eq_toNat_cond]
  split at htarget <;> omega

/-- What a taken branch costs: the two addresses lie in one page exactly when their high bytes agree (40_engine.md R84). -/
theorem taken_cost (next target : Addr) :
    2 + (1 + bit (pageCross next target)) = if next.toNat / 256 = target.toNat / 256 then 3 else 4 := by
  rw [pageCross_eq_decide]
  split <;> simp [bit, *]

/-- A branch rule is the opcode's row and the condition its instruction hands to `branch`. -/
theorem branchRule_of_findRow {op : Byte} {r : OpRow} {i : Byte → Instr} {cond : State → Prop} {test : State → Bool}
    (hfound : findRow op = some r) (hbuild : ∀ rel b2, r.build rel b2 = i rel)
    (hexec : ∀ rel s, exec (i rel) s = branch (test s) rel s) (hcond : ∀ s, cond s ↔ test s = true) :
    BranchRule op i cond := by
  intro s rel b2
  refine ⟨decode_of_findRow hfound (hbuild rel b2), fun hnot => ?_, fun htaken => ?_⟩
  · rw [hexec, branch_next, if_neg (mt (hcond s).2 hnot)]
  · refine ⟨branchTarget rel (s.pc + 2), branchTarget_add_two_toNat rel s.pc, ?_⟩
    rw [hexec, branch_next, if_pos ((hcond s).1 htaken), taken_cost]
    rfl

/-- Settles O41: each opcode finds its row, whose instruction is the branch on that flag or on its complement. -/
theorem branchesTakeTheirFlag : Obligations.BranchesTakeTheirFlag := by
  and_intros <;> exact branchRule_of_findRow rfl (fun _ _ => rfl) (fun _ _ => rfl) fun _ => by simp

/-- Settles O42: both opcodes find their rows, and the two instructions write PC alone. -/
theorem jmpSetsPc : Obligations.JmpSetsPc := by
  intro s b1 b2
  rw [← word_eq_ofNat]
  exact ⟨decode_of_findRow rfl rfl, decode_of_findRow rfl rfl, fun _ => ⟨rfl, rfl⟩⟩

/-! ### Subroutine call and return -/

/-- The byte of `push16` at the first of its two addresses: the second byte goes below it, also where SP wraps. -/
theorem State.readByte_push16_high (s : State) (w : Addr) : (s.push16 w).readByte (stackAddr s.sp) = hi w := by
  have hne : stackAddr s.sp ≠ stackAddr (s.sp - 1) := by
    rw [Ne, stackAddr_inj]
    bv_omega
  rw [State.readByte_push16, if_neg hne, if_pos rfl]

theorem State.readByte_push16_low (s : State) (w : Addr) : (s.push16 w).readByte (stackAddr (s.sp - 1)) = lo w := by
  rw [State.readByte_push16, if_pos rfl]

@[simp] theorem State.pulled16_completed (s : State) (len cost : Nat) :
    (s.completed len cost).pulled16 = s.pulled16 := rfl

@[simp] theorem State.pulled16_setPc (s : State) (target : Addr) : (s.setPc target).pulled16 = s.pulled16 := rfl

/-- Two pulls return the 16-bit value pushed before them (46_stack_system.md R154). -/
theorem State.pulled16_push16 (s : State) (w : Addr) : (s.push16 w).pulled16 = w := by
  have hhigh : s.sp - 2 + 2 = s.sp := sub_add_cancel ..
  have hlow : s.sp - 2 + 1 = s.sp - 1 := by bv_omega
  rw [State.pulled16_eq, State.push16_sp, hhigh, hlow, readByte_push16_high, readByte_push16_low, word_hi_lo]

/-- Settles O43: the two pushed bytes are read back, and an instruction changes only the bytes it stores to. -/
theorem jsrPushesReturnAddress : Obligations.JsrPushesReturnAddress := by
  intro s b1 b2 target
  have hhigh := State.readByte_push16_high (s.completed 3 6) (s.pc + 2)
  have hlow := State.readByte_push16_low (s.completed 3 6) (s.pc + 2)
  refine ⟨?_, _, exec_jsr target s, rfl, ?_, ?_, ?_, ?_, ?_, ?_, ?_⟩
  · rw [← word_eq_ofNat]
    exact decode_of_findRow rfl rfl
  · simp
  · rw [State.readByte_setPc, ← hi_toNat]
    exact congrArg _ hhigh
  · rw [State.readByte_setPc, ← lo_toNat]
    exact congrArg _ hlow
  · simp
  · simp [KeepsAXY]
  · simp [Accounted]
  · exact onlyStoredBytesChange _ s _ (exec_jsr target s)

/-- Settles O44: the two bytes pulled are joined, and the increment wraps. -/
theorem rtsReturnsPastJsr : Obligations.RtsReturnsPastJsr := by
  intro s b1 b2
  refine ⟨decode_of_findRow rfl rfl, _, exec_rts s, ?_, State.afterPull16_sp _, rfl, rfl, ⟨rfl, rfl, rfl⟩,
    ⟨rfl, rfl, rfl, rfl, rfl⟩⟩
  rw [State.setPc_pc, State.pulled16_completed, BitVec.toNat_add, State.pulled16_eq, word_toNat]
  rfl

/-- Settles O45: RTS pulls what JSR pushed, the address of the JSR's last byte, and continues one past it. -/
theorem jsrRtsRoundTrip : Obligations.JsrRtsRoundTrip := by
  intro s target
  refine ⟨_, _, exec_jsr target s, exec_rts _, ?_, ?_, ?_, ?_⟩
  · rw [State.setPc_pc, State.pulled16_completed, State.pulled16_setPc, State.pulled16_push16, BitVec.add_assoc]
    rfl
  · simp
  · simp
  · simp [KeepsAXY]

end Sys2Proof.Machine

namespace Sys2Proof.Machine

/-! ### Events (46_stack_system.md R170, 60_exceptions.md R172) -/

/-- An unknown opcode is not HALT_OPCODE: with that byte the decoder gives the halt. -/
theorem halt_ne_of_decode_eq_unknown {halt : Option Byte} {op op' b1 b2 : Byte}
    (h : decode halt op b1 b2 = .unknown op') : halt ≠ some op := by
  obtain ⟨hop, -⟩ := decode_eq_unknown h
  rintro rfl
  rw [decode_undocumented hop, if_pos rfl] at h
  cases h

/-- An instruction other than an unknown opcode emits no event. -/
theorem exec_diags {i : Instr} {s t : State} (hu : mnemonicOf i ≠ .unknown) (h : exec i s = .next t) :
    t.diags = s.diags := by
  by_cases hh : i = .hlt
  · subst hh
    cases h
    simp
  · obtain ⟨-, -, -, ⟨-, -, -, hdiags, -⟩, -⟩ := (shape_exec i).timed hh hu h
    exact hdiags

/-- Settles O12: the event of an unknown opcode is the one its execution raises, for the byte it was decoded from; every
other instruction leaves the history alone. -/
theorem onlyUnknownOpcodesEmitEvents : Obligations.OnlyUnknownOpcodesEmitEvents := by
  intro s t h
  by_cases hu : mnemonicOf s.nextInstr = .unknown
  · right
    obtain ⟨op, hop⟩ := eq_unknown_of_mnemonicOf hu
    obtain ⟨hundocumented, rfl⟩ := decode_eq_unknown hop
    rw [step, hop, exec_unknown_next] at h
    obtain ⟨-, rfl⟩ := h
    exact ⟨hundocumented, halt_ne_of_decode_eq_unknown hop, rfl⟩
  · exact .inl ⟨exec_diags hu h, hu⟩

/-! ### The stack (46_stack_system.md R154) -/

@[simp] theorem State.pulled_completed (s : State) (len cost : Nat) : (s.completed len cost).pulled = s.pulled := rfl

/-- A pull returns the byte pushed before it, also where SP wraps. -/
@[simp] theorem State.pulled_push (s : State) (v : Byte) : (s.push v).pulled = v := by
  have hsp : s.sp - 1 + 1 = s.sp := sub_add_cancel ..
  rw [State.pulled_eq, State.push_sp, hsp, State.readByte_push, if_pos rfl]

theorem State.afterPull_push_sp (s : State) (v : Byte) : (s.push v).afterPull.sp = s.sp := sub_add_cancel s.sp 1

theorem State.afterPull16_push16_sp (s : State) (w : Addr) : (s.push16 w).afterPull16.sp = s.sp := by
  rw [State.afterPull16_sp, State.push16_sp]
  exact sub_add_cancel s.sp 2

/-- Settles O20: the equations of the four operations, and the round trips of a byte and of a 16-bit value. -/
theorem stackPushAndPull : Obligations.StackPushAndPull :=
  fun s v w => ⟨stackAddr_toNat s.sp, rfl, rfl, State.pulled_eq s, State.push16_eq s w, State.pulled_push s v,
    State.afterPull_push_sp s v, State.pulled16_push16 s w, State.afterPull16_push16_sp s w⟩

/-- Settles O21: each pull returns the byte its push stored, and unpacking inverts packing. -/
theorem stackDiscipline : Obligations.StackDiscipline := by
  refine fun s => ⟨⟨_, _, exec_pha s, exec_pla _, ?_, ?_⟩, ⟨_, _, exec_php s, exec_plp _, ?_, ?_⟩⟩
  · simp
  · exact State.afterPull_push_sp (s.completed 1 3) s.a
  · simp [decodeStatus_encodeStatus]
  · exact State.afterPull_push_sp (s.completed 1 3) (encodeStatus s.flags)

/-- Settles O46: both opcodes find their rows, and a push is one write and the decrement of SP. -/
theorem pushInstructions : Obligations.PushInstructions :=
  fun s _ _ => ⟨decode_of_findRow rfl rfl, decode_of_findRow rfl rfl, exec_pha s, exec_php s⟩

/-- Settles O47: both opcodes find their rows, and a pull is the increment of SP and one read. -/
theorem pullInstructions : Obligations.PullInstructions :=
  fun s _ _ => ⟨decode_of_findRow rfl rfl, decode_of_findRow rfl rfl, exec_pla s, exec_plp s⟩

/-! ### The trap and the return from it (46_stack_system.md R159, R160, 60_exceptions.md R176, R177) -/

/-- The three bytes of the frame lie at three addresses, also where SP wraps. -/
theorem stackAddr_frame_ne (sp : Byte) :
    stackAddr sp ≠ stackAddr (sp - 1) ∧ stackAddr sp ≠ stackAddr (sp - 2) ∧
      stackAddr (sp - 1) ≠ stackAddr (sp - 2) := by
  simp only [Ne, stackAddr_inj]
  bv_omega

theorem State.readByte_takeBreak_high (s : State) :
    s.takeBreak.readByte (stackAddr s.sp) = hi s.brkReturnAddr := by
  obtain ⟨hlow, hstatus, -⟩ := stackAddr_frame_ne s.sp
  rw [State.readByte_takeBreak, if_neg hstatus, if_neg hlow, if_pos rfl]

theorem State.readByte_takeBreak_low (s : State) :
    s.takeBreak.readByte (stackAddr (s.sp - 1)) = lo s.brkReturnAddr := by
  obtain ⟨-, -, hstatus⟩ := stackAddr_frame_ne s.sp
  rw [State.readByte_takeBreak, if_neg hstatus, if_pos rfl]

theorem State.readByte_takeBreak_status (s : State) :
    s.takeBreak.readByte (stackAddr (s.sp - 2)) = encodeStatus s.flags.withBreak := by
  rw [State.readByte_takeBreak, if_pos rfl]

/-- Settles O48: the frame's three bytes are read back, and an instruction changes only the bytes it stores to. -/
theorem brkTakesTheTrap : Obligations.BrkTakesTheTrap := by
  intro s b1 b2
  refine ⟨decode_of_findRow rfl rfl, _, exec_brk s, ⟨?_, ?_⟩, State.readByte_takeBreak_status s, State.takeBreak_sp s,
    ?_, ?_, ?_, ?_, onlyStoredBytesChange _ s _ (exec_brk s)⟩
  · rw [State.readByte_takeBreak_high, hi_toNat]
    rfl
  · rw [State.readByte_takeBreak_low, lo_toNat]
    rfl
  · rw [State.takeBreak_flags]
    cases s.cfg.brkSetsI <;> simp
  · rw [State.takeBreak_pc, word_toNat]
    rfl
  · simp [KeepsAXY]
  · simp [Accounted]

/-- Settles O49: the return's own equations, field by field; the two bytes above the status are joined. -/
theorem rtiReturnsFromTheTrap : Obligations.RtiReturnsFromTheTrap := by
  intro s b1 b2
  refine ⟨decode_of_findRow rfl rfl, _, exec_rti s, State.returnFromBreak_flags s, ?_, State.returnFromBreak_sp s,
    State.returnFromBreak_mem s, ?_, ?_⟩
  · rw [State.returnFromBreak_pc, word_toNat]
  · simp [KeepsAXY]
  · simp [Accounted]

theorem State.returnFromBreak_takeBreak_pc (s : State) : s.takeBreak.returnFromBreak.pc = s.brkReturnAddr := by
  have hhigh : s.sp - 3 + 3 = s.sp := sub_add_cancel ..
  have hlow : s.sp - 3 + 2 = s.sp - 1 := by bv_omega
  rw [State.returnFromBreak_pc, State.takeBreak_sp, hhigh, hlow, State.readByte_takeBreak_high,
    State.readByte_takeBreak_low, word_hi_lo]

theorem State.returnFromBreak_takeBreak_flags (s : State) :
    s.takeBreak.returnFromBreak.flags = s.flags.withBreak := by
  have hstatus : s.sp - 3 + 1 = s.sp - 2 := by bv_omega
  rw [State.returnFromBreak_flags, State.takeBreak_sp, hstatus, State.readByte_takeBreak_status,
    decodeStatus_encodeStatus]

theorem State.returnFromBreak_takeBreak_sp (s : State) : s.takeBreak.returnFromBreak.sp = s.sp := by
  rw [State.returnFromBreak_sp, State.takeBreak_sp]
  exact sub_add_cancel s.sp 3

/-- Settles O50: RTI pulls the frame BRK pushed. -/
theorem brkRtiRoundTrip : Obligations.BrkRtiRoundTrip :=
  fun s => ⟨_, _, exec_brk s, exec_rti _, State.returnFromBreak_takeBreak_pc s,
    State.returnFromBreak_takeBreak_flags s, State.returnFromBreak_takeBreak_sp s, by simp [KeepsAXY]⟩

/-! ### The flag instructions and NOP -/

/-- Settles O51: each opcode finds its row, whose instruction writes the one flag, or nothing. -/
theorem flagInstructionsAndNop : Obligations.FlagInstructionsAndNop := by
  and_intros <;> exact impliedRule_of_findRow rfl (fun _ _ => rfl) fun _ => rfl

end Sys2Proof.Machine

namespace Sys2Proof.Machine

/-! ### Execute(1) -/

/-- Settles O60: the Step costs at least one cycle, so a budget of 1 is spent after it, whatever it returned. -/
theorem executeOneIsOneStep : Obligations.ExecuteOneIsOneStep := by
  intro s t h
  obtain ⟨hgain, -⟩ := stepAccountsForItsCycles s t h
  have hspent : 1 - ((t.cyc : Int) - s.cyc) ≤ 0 := by omega
  rw [execute_of_pos one_pos, h, Result.bind_next, execute_of_nonpos hspent, ite_self]
  rfl

/-! ### Inspection -/

theorem inspectRange_of_lt {first last : Addr} (h : last.toNat < first.toNat) (s : State) :
    inspectRange first last s = .error (.reversedRange first last) := if_pos h

theorem inspectRange_of_le {first last : Addr} (h : first.toNat ≤ last.toNat) (s : State) :
    inspectRange first last s =
      .ok ((List.range (last.toNat - first.toNat + 1)).map fun k => s.readByte (first + BitVec.ofNat 16 k)) :=
  if_neg h.not_gt

theorem addr_add_ofNat_sub {first a : Addr} (h : first.toNat ≤ a.toNat) :
    first + BitVec.ofNat 16 (a.toNat - first.toNat) = a := by
  bv_omega

theorem inspectStatus_bit5 (s : State) : (inspectStatus s).getLsbD 5 = true := by
  simp [inspectStatus, encodeStatus_eq_concat, BitVec.getElem_concat]

/-- Settles O58: the offset of an address in the range leads back to the address. -/
theorem inspectionReadsBytes : Obligations.InspectionReadsBytes := by
  intro s first last
  refine ⟨fun h => inspectRange_of_lt h s, fun h => ⟨_, inspectRange_of_le h s, by simp, fun a hfirst hlast => ?_⟩,
    inspectStatus_bit5 s⟩
  have hin : a.toNat - first.toNat < last.toNat - first.toNat + 1 := by omega
  rw [List.getElem?_map, List.getElem?_range hin, Option.map_some, addr_add_ofNat_sub hfirst]

/-! ### What Reset depends on -/

/-- Settles O55: the vector is the only thing Reset reads, and every field but the three is overwritten. -/
theorem resetDependsOnlyOnTheVector : Obligations.ResetDependsOnlyOnTheVector := by
  intro s s' hlow hhigh
  have hpc : s'.read16 resetVector = s.read16 resetVector := congrArg₂ word hhigh.symm hlow.symm
  refine ⟨s'.mem, s'.cfg, s'.diags, ?_⟩
  rw [hostReset, hpc]
  rfl

end Sys2Proof.Machine
